-- ==== Sys2Proof/Word.lean ====
section
/-! DEFINITION. The word types of the VS4: bytes on the memories and the link, 16-bit words on the game bus. -/

namespace Sys2Proof

/-- A byte of a memory, of a frame or of a request's parameters. -/
abbrev Byte := BitVec 8

/-- A 16-bit word of the game bus port, and the register of the CRC-16 (R96). -/
abbrev Word := BitVec 16

/-- A four-byte parameter (R174). -/
abbrev Quad := BitVec 32

end Sys2Proof
end

