-- ==== Sys2Proof/Config.lean ====
section
/-! DEFINITION. The free values: what the spec leaves open and the part settles in a way no claim may
rest on. Each is a constant without a body, applied to the model's counter of free values drawn. -/

namespace Sys2Proof

/-- Whether a crystal tick falls in the idle step with this number: the spec does not tie the crystal to
the cartridge clock (R90 exists to measure it). Log entry 4. -/
opaque Config.crystalTickFalls : Nat → Bool

/-- Whether the battery is below 2.5 V at a minute boundary that a step reaches without a command that
carries the reading (R153). Log entry 9. -/
opaque Config.batteryBelow : Nat → Bool

/-- Whether byte `i` of the burst that the closing write gate cut had reached SRAM (R155: 'partly
written'). Log entry 8. -/
opaque Config.cutByteWritten : Nat → Nat → Bool

/-- Whether the link carries a byte of a frame that waits in the idle step with this number: the system
processor clocks the link, and the spec ties that clock to no other (10.3). Log entry 17. -/
opaque Config.linkByteMoves : Nat → Bool

end Sys2Proof
end

