-- ==== Sys2Proof/Syntax.lean ====
section
/-! DEFINITION. The commands of the VS4: one constructor of `Instr` per row of spec/opcode_table.json,
the requests' parameters at the widths of R174, and the raw form of a request as a port holds it. -/

namespace Sys2Proof

/-- Either processor that issues requests (00, Terms); as an owner, GAME or SYSTEM. -/
inductive Master where
  | game
  | system
  deriving DecidableEq, Repr

/-- The other master (00, Conventions). -/
def Master.other : Master → Master
  | .game => .system
  | .system => .game

/-- A leg of the motor bridge (04). -/
inductive Leg where
  | a
  | b
  deriving DecidableEq, Repr

/-- The game bus locations whose writes have no effect (R165). -/
inductive ReadOnlyLoc where
  | rsp
  | note
  deriving DecidableEq, Repr

/-- A request as a port holds it: the header's kind and parameter length, the tag, and the parameter
bytes received (R163, R164, and the frames of 10). It is malformed when these do not fit (R169). -/
structure Request where
  kind : Byte
  plen : Nat
  tag : Byte
  params : List Byte
  deriving DecidableEq, Repr

/-- The parameters of VOICE_START, in the order and at the widths of R174. -/
structure VoiceStart where
  dest : Byte
  format : Byte
  source : Quad
  length : Quad
  loop : Option Quad
  step : Quad
  volume : Byte
  pan : Byte
  attack : Word
  decay : Word
  sustain : Word
  release : Word
  priority : Byte
  notify : Bool
  deriving DecidableEq, Repr

/-- The parameters of VOICE_SET: a handle and three optional fields (R16, R174). -/
structure VoiceSet where
  handle : Byte
  step : Option Quad
  volume : Option Byte
  pan : Option Byte
  deriving DecidableEq, Repr

/-- The local date fields of CLOCK_SET (R86, R174). -/
structure ClockFields where
  year : Word
  month : Byte
  day : Byte
  hour : Byte
  minute : Byte
  second : Byte
  deriving DecidableEq, Repr

/-- What a well-sized request asks, kind and parameters together (the request table of R174). The
FAULT_CLEAR selectors of R147 and R148 are three requests; `faultClearOther` is a selector that R174
refuses with RANGE. -/
inductive Req where
  | voiceStart (p : VoiceStart)
  | voiceSet (p : VoiceSet)
  | voiceRelease (handle : Byte)
  | voiceStop (handle : Byte)
  | voiceQuery (handle : Byte)
  | mixLevel (level : Option Word) (clear : Bool)
  | duckSet (factor : Word)
  | rumbleEnable (on : Bool)
  | rumbleStrength (strength : Word)
  | rumbleResume
  | rumbleStatus
  | clockRead
  | clockSet (fields : ClockFields)
  | zoneSet (zone : Byte)
  | trimSet (trim : Word)
  | rateCheck (edges : Word)
  | storeInfo
  | slotInfo (slot : Byte)
  | saveOpen (slot : Byte) (length : Word)
  | saveData (bytes : List Byte)
  | saveCommit
  | saveAbort
  | loadOpen (slot : Byte)
  | loadData (count : Byte)
  | loadClose
  | slotErase (slot : Byte)
  | slotCopy (source destination : Byte)
  | slotLock (slot : Byte) (on : Bool)
  | storeVerify (scope slot : Byte)
  | faultRead (index : Byte)
  | faultClearIndex (index : Byte)
  | faultClearAllMine
  | faultClearOverflow
  | faultClearOther (selector index : Byte)
  | partInfo (clearCounts : Bool)
  deriving DecidableEq, Repr

/-- The commands. The 34 requests carry their master and tag: the command is that whole request arriving
at its master's port (log entry 3). The others are port accesses, events on pins, completions and timers.
`weak` is the comparison of the battery with 2.5 V (R153); `batteryAble` whether the battery can run the
battery domain (R150). -/
inductive Instr where
  | voiceStart (m : Master) (tag : Byte) (p : VoiceStart)
  | voiceSet (m : Master) (tag : Byte) (p : VoiceSet)
  | voiceRelease (m : Master) (tag : Byte) (handle : Byte)
  | voiceStop (m : Master) (tag : Byte) (handle : Byte)
  | voiceQuery (m : Master) (tag : Byte) (handle : Byte)
  | mixLevel (m : Master) (tag : Byte) (level : Option Word) (clear : Bool)
  | duckSet (m : Master) (tag : Byte) (factor : Word)
  | rumbleEnable (m : Master) (tag : Byte) (on : Bool)
  | rumbleStrength (m : Master) (tag : Byte) (strength : Word)
  | rumbleResume (m : Master) (tag : Byte)
  | rumbleStatus (m : Master) (tag : Byte)
  | clockRead (m : Master) (tag : Byte)
  | clockSet (m : Master) (tag : Byte) (fields : ClockFields)
  | zoneSet (m : Master) (tag : Byte) (zone : Byte)
  | trimSet (m : Master) (tag : Byte) (trim : Word)
  | rateCheck (m : Master) (tag : Byte) (edges : Word)
  | storeInfo (m : Master) (tag : Byte)
  | slotInfo (m : Master) (tag : Byte) (slot : Byte)
  | saveOpen (m : Master) (tag : Byte) (slot : Byte) (length : Word)
  | saveData (m : Master) (tag : Byte) (bytes : List Byte)
  | saveCommit (m : Master) (tag : Byte)
  | saveAbort (m : Master) (tag : Byte)
  | loadOpen (m : Master) (tag : Byte) (slot : Byte)
  | loadData (m : Master) (tag : Byte) (count : Byte)
  | loadClose (m : Master) (tag : Byte)
  | slotErase (m : Master) (tag : Byte) (slot : Byte)
  | slotCopy (m : Master) (tag : Byte) (source destination : Byte)
  | slotLock (m : Master) (tag : Byte) (slot : Byte) (on : Bool)
  | storeVerify (m : Master) (tag : Byte) (scope slot : Byte)
  | faultRead (m : Master) (tag : Byte) (index : Byte)
  | faultClearIndex (m : Master) (tag : Byte) (index : Byte)
  | faultClearAllMine (m : Master) (tag : Byte)
  | faultClearOverflow (m : Master) (tag : Byte)
  | partInfo (m : Master) (tag : Byte) (clearCounts : Bool)
  | badRequest (m : Master) (r : Request)
  | reqWrite (w : Word)
  | rspRead
  | noteRead
  | portStatusRead
  | discardAssembly
  | clearOverflow
  | writeAttentionEnable (on : Bool)
  | registerWriteNoEffect (loc : ReadOnlyLoc) (w : Word)
  | requestFrame (bytes : List Byte)
  | sendFrame
  | audioFrame
  | mixerTick
  | voiceStarve (v : Nat)
  | brakeEnd
  | carrierPeriodStart
  | pwmPulseEnd
  | deadTimeExpiry (leg : Leg)
  | staleTimerExpiry
  | cutoffInputActive
  | cutoffInputInactive
  | secondBoundary (weak : Bool)
  | minuteBoundary (weak : Bool)
  | frameSyncEdge
  | rateCheckTimeout
  | fetchBurstComplete
  | configBurstComplete
  | mountReadComplete
  | dataWriteComplete
  | pageWriteBurstComplete
  | copyReadComplete
  | copyWriteComplete
  | loadReadComplete
  | verifyReadComplete
  | supplyFailing (batteryAble : Bool)
  | consolePowerUp (weak : Bool)
  | consoleReset
  | resetRelease
  | batteryLoss
  | batteryDomainRestart
  | sramContentsLost
  | portStatusWrite (w : Word)
  deriving DecidableEq, Repr

end Sys2Proof
end

