-- ==== Sys2Proof/Decode.lean ====
section
/-! DEFINITION. The wire forms of the requests (R174): decoding the kind and parameter bytes of a request,
total on any bytes and refusing by `none` what R169 calls malformed, and after it the encoder. The opcode
table gives no row any bits, so `decodeTableWord` spells no command. -/

namespace Sys2Proof

/-- Two bytes, least significant first (11). -/
def le16 (b0 b1 : Byte) : Word := b1 ++ b0

/-- Four bytes, least significant first (11). -/
def le32 (b0 b1 b2 b3 : Byte) : Quad := b3 ++ b2 ++ b1 ++ b0

/-- The bytes of a 16-bit value, least significant first (11). -/
def bytes16 (w : Word) : List Byte := [w.extractLsb' 0 8, w.extractLsb' 8 8]

/-- The bytes of a 32-bit value, least significant first (11). -/
def bytes32 (w : Quad) : List Byte :=
  [w.extractLsb' 0 8, w.extractLsb' 8 8, w.extractLsb' 16 8, w.extractLsb' 24 8]

/-- On input a yes, no, on or off parameter is no for 0 and yes for any other value (R174). -/
def readFlag (b : Byte) : Bool := b != 0

/-- A yes or on field is 1, a no or off field 0 (R174). -/
def writeFlag (b : Bool) : Byte := if b then 1 else 0

/-- The kinds of R174's request table, by the request. -/
def Req.kind : Req → Byte
  | .voiceStart _ => 0x01
  | .voiceSet _ => 0x02
  | .voiceRelease _ => 0x03
  | .voiceStop _ => 0x04
  | .voiceQuery _ => 0x05
  | .mixLevel _ _ => 0x10
  | .duckSet _ => 0x11
  | .rumbleEnable _ => 0x18
  | .rumbleStrength _ => 0x19
  | .rumbleResume => 0x1A
  | .rumbleStatus => 0x1B
  | .clockRead => 0x20
  | .clockSet _ => 0x21
  | .zoneSet _ => 0x22
  | .trimSet _ => 0x23
  | .rateCheck _ => 0x24
  | .storeInfo => 0x30
  | .slotInfo _ => 0x31
  | .saveOpen _ _ => 0x32
  | .saveData _ => 0x33
  | .saveCommit => 0x34
  | .saveAbort => 0x35
  | .loadOpen _ => 0x36
  | .loadData _ => 0x37
  | .loadClose => 0x38
  | .slotErase _ => 0x39
  | .slotCopy _ _ => 0x3A
  | .slotLock _ _ => 0x3B
  | .storeVerify _ _ => 0x3C
  | .faultRead _ => 0x48
  | .faultClearIndex _ => 0x49
  | .faultClearAllMine => 0x49
  | .faultClearOverflow => 0x49
  | .faultClearOther _ _ => 0x49
  | .partInfo _ => 0x50

/-- VOICE_START's 31 parameter bytes (R174). A loop-start presence byte above 1 reads as present, and the four
bytes of a loop start not present are ignored (DESIGN CHOICE, log entry 41). -/
def decodeVoiceStart : List Byte → Option Req
  | [de, fo, s0, s1, s2, s3, l0, l1, l2, l3, lp, o0, o1, o2, o3, t0, t1, t2, t3, vo, pa,
      a0, a1, d0, d1, u0, u1, r0, r1, pr, no] =>
    some (.voiceStart
      { dest := de, format := fo, source := le32 s0 s1 s2 s3, length := le32 l0 l1 l2 l3,
        loop := if readFlag lp then some (le32 o0 o1 o2 o3) else none,
        step := le32 t0 t1 t2 t3, volume := vo, pan := pa, attack := le16 a0 a1,
        decay := le16 d0 d1, sustain := le16 u0 u1, release := le16 r0 r1, priority := pr,
        notify := readFlag no })
  | _ => none

/-- VOICE_SET's 8 parameter bytes: presence bits 0 pitch, 1 volume, 2 pan (R174). The spec does not say what
bits 7 to 3 do; they are ignored (DESIGN CHOICE, log entry 38). -/
def decodeVoiceSet : List Byte → Option Req
  | [h, pr, t0, t1, t2, t3, vo, pa] =>
    some (.voiceSet
      { handle := h
        step := if pr.getLsbD 0 then some (le32 t0 t1 t2 t3) else none
        volume := if pr.getLsbD 1 then some vo else none
        pan := if pr.getLsbD 2 then some pa else none })
  | _ => none

/-- SAVE_DATA carries 1 to 64 bytes; any other number is malformed (R116, R169). -/
def decodeSaveData (bytes : List Byte) : Option Req :=
  if 1 ≤ bytes.length ∧ bytes.length ≤ 64 then some (.saveData bytes) else none

/-- FAULT_CLEAR's selector: 0 index, 1 all-mine, 2 overflow (R174). -/
def decodeFaultClear (selector index : Byte) : Req :=
  if selector = 0 then .faultClearIndex index
  else if selector = 1 then .faultClearAllMine
  else if selector = 2 then .faultClearOverflow
  else .faultClearOther selector index

/-- The request that a kind and its parameter bytes spell; `none` where the kind is not one of the request
kinds or the parameter length is not the one R174 gives for it (R169). The spec names bits 0 and 1 of
MIX_LEVEL's flags byte alone; bits 7 to 2 are ignored (DESIGN CHOICE, log entry 38). -/
def decodeParams (kind : Byte) (ps : List Byte) : Option Req :=
  if kind = 0x01 then decodeVoiceStart ps
  else if kind = 0x02 then decodeVoiceSet ps
  else if kind = 0x33 then decodeSaveData ps
  else match ps with
    | [] =>
      if kind = 0x1A then some .rumbleResume
      else if kind = 0x1B then some .rumbleStatus
      else if kind = 0x20 then some .clockRead
      else if kind = 0x30 then some .storeInfo
      else if kind = 0x34 then some .saveCommit
      else if kind = 0x35 then some .saveAbort
      else if kind = 0x38 then some .loadClose
      else none
    | [a] =>
      if kind = 0x03 then some (.voiceRelease a)
      else if kind = 0x04 then some (.voiceStop a)
      else if kind = 0x05 then some (.voiceQuery a)
      else if kind = 0x18 then some (.rumbleEnable (readFlag a))
      else if kind = 0x22 then some (.zoneSet a)
      else if kind = 0x31 then some (.slotInfo a)
      else if kind = 0x36 then some (.loadOpen a)
      else if kind = 0x37 then some (.loadData a)
      else if kind = 0x39 then some (.slotErase a)
      else if kind = 0x48 then some (.faultRead a)
      else if kind = 0x50 then some (.partInfo (readFlag a))
      else none
    | [a, b] =>
      if kind = 0x11 then some (.duckSet (le16 a b))
      else if kind = 0x19 then some (.rumbleStrength (le16 a b))
      else if kind = 0x23 then some (.trimSet (le16 a b))
      else if kind = 0x24 then some (.rateCheck (le16 a b))
      else if kind = 0x3A then some (.slotCopy a b)
      else if kind = 0x3B then some (.slotLock a (readFlag b))
      else if kind = 0x3C then some (.storeVerify a b)
      else if kind = 0x49 then some (decodeFaultClear a b)
      else none
    | [a, b, c] =>
      if kind = 0x10 then
        some (.mixLevel (if a.getLsbD 0 then some (le16 b c) else none) (a.getLsbD 1))
      else if kind = 0x32 then some (.saveOpen a (le16 b c))
      else none
    | [a, b, c, d, e, f, g] =>
      if kind = 0x21 then
        some (.clockSet
          { year := le16 a b, month := c, day := d, hour := e, minute := f, second := g })
      else none
    | _ => none

/-- The request a port's raw request spells; `none` when it is malformed: unknown kind, a parameter length
that differs from the bytes that came or is above 64, or one not allowed for the kind (R169). -/
def decodeRequest (r : Request) : Option Req :=
  if r.plen = r.params.length then decodeParams r.kind r.params else none

/-- An optional field keeps its full width when absent, with zeros (R174). -/
def encodeLoop : Option Quad → List Byte
  | none => [0, 0, 0, 0, 0]
  | some l => 1 :: bytes32 l

/-- The parameter bytes of a request, in the order and at the widths of R174. -/
def Req.encodeParams : Req → List Byte
  | .voiceStart p =>
    [p.dest, p.format] ++ bytes32 p.source ++ bytes32 p.length ++ encodeLoop p.loop ++
      bytes32 p.step ++ [p.volume, p.pan] ++ bytes16 p.attack ++ bytes16 p.decay ++
      bytes16 p.sustain ++ bytes16 p.release ++ [p.priority, writeFlag p.notify]
  | .voiceSet p =>
    [p.handle, (if p.step.isSome then 1 else 0) ||| (if p.volume.isSome then 2 else 0) |||
      (if p.pan.isSome then 4 else 0)] ++ bytes32 (p.step.getD 0) ++
      [p.volume.getD 0, p.pan.getD 0]
  | .voiceRelease h => [h]
  | .voiceStop h => [h]
  | .voiceQuery h => [h]
  | .mixLevel l c =>
    ((if l.isSome then 1 else 0) ||| (if c then 2 else 0)) :: bytes16 (l.getD 0)
  | .duckSet f => bytes16 f
  | .rumbleEnable on => [writeFlag on]
  | .rumbleStrength s => bytes16 s
  | .rumbleResume => []
  | .rumbleStatus => []
  | .clockRead => []
  | .clockSet d => bytes16 d.year ++ [d.month, d.day, d.hour, d.minute, d.second]
  | .zoneSet z => [z]
  | .trimSet t => bytes16 t
  | .rateCheck n => bytes16 n
  | .storeInfo => []
  | .slotInfo s => [s]
  | .saveOpen s l => s :: bytes16 l
  | .saveData bs => bs
  | .saveCommit => []
  | .saveAbort => []
  | .loadOpen s => [s]
  | .loadData c => [c]
  | .loadClose => []
  | .slotErase s => [s]
  | .slotCopy a b => [a, b]
  | .slotLock s on => [s, writeFlag on]
  | .storeVerify sc s => [sc, s]
  | .faultRead i => [i]
  | .faultClearIndex i => [0, i]
  | .faultClearAllMine => [1, 0]
  | .faultClearOverflow => [2, 0]
  | .faultClearOther sel i => [sel, i]
  | .partInfo c => [writeFlag c]

/-- The raw request that carries a request under a tag. -/
def Req.encode (tag : Byte) (q : Req) : Request :=
  { kind := q.kind, plen := q.encodeParams.length, tag := tag, params := q.encodeParams }

/-- The requests that the wire can spell: SAVE_DATA with 1 to 64 bytes (R116), an unnamed FAULT_CLEAR
selector (R174) only where it is not a named one. -/
def Req.WellFormed : Req → Prop
  | .saveData bs => 1 ≤ bs.length ∧ bs.length ≤ 64
  | .faultClearOther sel _ => sel ≠ 0 ∧ sel ≠ 1 ∧ sel ≠ 2
  | _ => True

/-- A request is malformed in the sense of R169. -/
def Request.malformed (r : Request) : Bool := (decodeRequest r).isNone

/-- The command a table word spells: the table gives no row any bits, so none does. -/
def decodeTableWord (_nbits _w : Nat) : Option Instr := none

end Sys2Proof
end

