-- ==== Sys2Proof/Machine/Crc.lean ====
section
/-! DEFINITION. The two cyclic redundancy checks: the CRC-16 of the store and the configuration block
(R96), and the CRC-8 of the link frames (10, system link port). -/

namespace Sys2Proof.Machine

/-- One shift of the CRC-16 register: combined with 0x1021 when the bit shifted out was 1 (R96). -/
def crc16Shift (r : Word) : Word :=
  if r.msb then (r <<< 1) ^^^ 0x1021#16 else r <<< 1

/-- One byte into the CRC-16: into the upper eight bits, then eight shifts (R96). -/
def crc16Byte (r : Word) (b : Byte) : Word :=
  let r := r ^^^ (b ++ 0x00#8)
  crc16Shift (crc16Shift (crc16Shift (crc16Shift (crc16Shift (crc16Shift
    (crc16Shift (crc16Shift r)))))))

/-- The register after more bytes, from a register. -/
def crc16From (r : Word) (bytes : List Byte) : Word := bytes.foldl crc16Byte r

/-- The CRC-16's initial value (R96). -/
def crc16Init : Word := 0xFFFF

/-- The CRC-16 of a run of bytes (R96). -/
def crc16 (bytes : List Byte) : Word := crc16From crc16Init bytes

/-- One shift of the CRC-8 register, polynomial 0x07 (10, system link port). -/
def crc8Shift (r : Byte) : Byte :=
  if r.msb then (r <<< 1) ^^^ 0x07#8 else r <<< 1

/-- One byte into the CRC-8. -/
def crc8Byte (r b : Byte) : Byte :=
  crc8Shift (crc8Shift (crc8Shift (crc8Shift (crc8Shift (crc8Shift
    (crc8Shift (crc8Shift (r ^^^ b))))))))

/-- The CRC-8 of a run of bytes, initial value 0 (10, system link port). -/
def crc8 (bytes : List Byte) : Byte := bytes.foldl crc8Byte 0x00

end Sys2Proof.Machine
end

