-- ==== Sys2Proof/Machine/Memory.lean ====
section
/-! DEFINITION. The two memories of the private bus: lists of cells in one canonical form, addresses
strictly rising and no cell equal to what an unlisted address reads as. -/

namespace Sys2Proof.Machine

/-- A memory: its cells in canonical form. `d`, the byte an unlisted address reads as, is an argument of
each operation, since ROM and SRAM differ in it. -/
abbrev Memory := List Host.Cell

/-- What an SRAM byte that nothing has written reads as. DESIGN CHOICE, log entry 6. -/
def sramBlank : Byte := 0x00

/-- What a ROM byte that the environment has not set reads as: blank flash (R175). Log entry 6. -/
def romBlank : Byte := 0xFF

/-- The number of bytes of save SRAM (R93). -/
def sramSize : Nat := 131072

/-- The number of byte addresses of sample ROM (00, external memories). -/
def romSize : Nat := 16777216

/-- One byte of a memory. -/
def Memory.read (d : Byte) : Memory → Nat → Byte
  | [], _ => d
  | (b, x) :: rest, a => if b = a then x else Memory.read d rest a

/-- Writes one byte, keeping the canonical form: writing what an unlisted address reads as removes the
cell. -/
def Memory.write (d : Byte) : Memory → Nat → Byte → Memory
  | [], a, v => if v = d then [] else [(a, v)]
  | (b, x) :: rest, a, v =>
    if a < b then (if v = d then (b, x) :: rest else (a, v) :: (b, x) :: rest)
    else if a = b then (if v = d then rest else (a, v) :: rest)
    else (b, x) :: Memory.write d rest a v

/-- The `n` bytes from address `a` on. -/
def Memory.readBytes (d : Byte) (m : Memory) (a : Nat) : Nat → List Byte
  | 0 => []
  | n + 1 => Memory.read d m a :: Memory.readBytes d m (a + 1) n

/-- Writes bytes at consecutive addresses from `a` on. -/
def Memory.writeBytes (d : Byte) : Memory → Nat → List Byte → Memory
  | m, _, [] => m
  | m, a, v :: rest => Memory.writeBytes d (Memory.write d m a v) (a + 1) rest

/-- The canonical form: addresses strictly rising, no cell equal to the unlisted byte. -/
abbrev Memory.wf (d : Byte) (m : Memory) : Prop :=
  m.Pairwise (fun x y => x.1 < y.1) ∧ ∀ c ∈ m, c.2 ≠ d

end Sys2Proof.Machine
end

