-- ==== Sys2Proof/Machine/Values.lean ====
section
/-! DEFINITION. The constants of the spec and the configuration values with their built-in defaults
(R158). -/

namespace Sys2Proof.Machine

/-- The loaded values of the configuration block (R158). -/
structure LoadedConfig where
  romBytes : Nat
  ng : Nat
  maxLength : Nat
  visible : Bool
  scan : Bool
  guarantee : Nat
  gameLevel : Nat
  systemLevel : Nat
  strength : Nat
  pc : Nat
  td : Nat
  tm : Nat
  dutyCap : Nat
  tb : Nat
  boundary : Nat
  deriving DecidableEq, Repr

/-- The built-in defaults (R158). -/
def builtIn : LoadedConfig :=
  { romBytes := 64, ng := 24, maxLength := 8192, visible := true, scan := true, guarantee := 2,
    gameLevel := 128, systemLevel := 128, strength := 3, pc := 819, td := 33, tm := 80,
    dutyCap := 85, tb := 4, boundary := 0 }

/-- The stale timer's start, 50 ms in cartridge clock counts (R55, R71). -/
def staleCounts : Nat := 819200

/-- The rate check's gap timer, one second of crystal ticks (R90, R91). -/
def gapTicks : Nat := 32768

/-- The crystal ticks of an untrimmed second (R75). -/
def secondTicks : Nat := 32768

/-- The top of SEC and of the generations (R74, R97). -/
def maxQuad : Nat := 4294967295

/-- The top of the 16-bit saturating counts (R21, R163). -/
def maxCount : Nat := 65535

/-- The request queue's places (R163). -/
def requestPlaces : Nat := 8

/-- The reply slots (R163). -/
def replySlots : Nat := 8

/-- The notice queue's places (R163). -/
def noticePlaces : Nat := 16

/-- The commit queue's places (R119). -/
def commitPlaces : Nat := 6

/-- The bytes of a burst (R50). -/
def burstBytes : Nat := 32

/-- The fetch run count at which the starvation guard acts (R49). -/
def guardRun : Nat := 7

/-- The frames from one mixer tick to the next (R22). -/
def tickFrames : Nat := 32

/-- The envelope's peak (R12). -/
def peakLevel : Nat := 32767

/-- The magic of a directory page (R94). -/
def pageMagic : Nat := 0x7A3C51E6

/-- The magic of the configuration block (R175). -/
def configMagic : Nat := 0xD41E7B02

/-- The start marker of a link frame (11.2). -/
def frameMarker : Byte := 0xA5

/-- The part code and revision of PART_INFO (11.3). -/
def partCode : Nat := 0x0754

/-- The revision number of PART_INFO (11.3). -/
def partRevision : Nat := 1

end Sys2Proof.Machine
end

