-- ==== Sys2Proof/Machine/State.lean ====
section
/-! DEFINITION. The state of the VS4: every item the spec's tables of state name, block by block, with the
model's own fields (the command queue, the outputs last driven, the counter of free values), the reasons a
step can stop, and the state after reset. -/

namespace Sys2Proof.Machine

/-! ## Voice pool (R1, R2) -/

/-- Where a voice is in its lifecycle (R1). -/
inductive VoiceState where
  | free
  | keyed
  | playing
  | releasing
  deriving DecidableEq, Repr

/-- Which part of the envelope a PLAYING voice follows (R1). -/
inductive EnvPhase where
  | attack
  | decay
  | sustain
  deriving DecidableEq, Repr

/-- Where a voice sounds (R1). -/
inductive Destination where
  | speaker
  | motor
  deriving DecidableEq, Repr

/-- The sample formats (R1). -/
inductive SampleFormat where
  | pcm8
  | pcm16
  deriving DecidableEq, Repr

/-- The ending reasons, in the order of R18's table. -/
inductive EndReason where
  | endOfSample
  | released
  | stopped
  | stolen
  | starved
  | reset
  deriving DecidableEq, Repr

/-- What a voice adds to the accumulators in a frame: left and right of a SPEAKER voice (R27), the motor
part of a MOTOR voice (R28); the parts it does not feed are 0. -/
structure Contribution where
  left : Int
  right : Int
  motor : Int
  deriving DecidableEq, Repr

/-- The contribution 0. -/
def Contribution.zero : Contribution := ⟨0, 0, 0⟩

/-- A voice record (R1). -/
structure Voice where
  state : VoiceState
  phase : Option EnvPhase
  gen : BitVec 4
  owner : Master
  dest : Destination
  format : SampleFormat
  source : Nat
  len : Nat
  loop : Option Nat
  n : Nat
  f : Nat
  step : Nat
  volume : Nat
  pan : Nat
  attack : Nat
  decay : Nat
  sustain : Nat
  release : Nat
  level : Nat
  priority : Nat
  notify : Bool
  pendingStep : Option Nat
  pendingVolume : Option Nat
  pendingPan : Option Nat
  starve : Nat
  last : Contribution
  endReason : Option EndReason
  deriving DecidableEq, Repr

/-- A voice record after console power-up (R20). -/
def Voice.initial : Voice :=
  { state := .free, phase := none, gen := 0, owner := .game, dest := .speaker, format := .pcm8,
    source := 0, len := 0, loop := none, n := 0, f := 0, step := 0, volume := 0, pan := 0,
    attack := 0, decay := 0, sustain := 0, release := 0, level := 0, priority := 0, notify := false,
    pendingStep := none, pendingVolume := none, pendingPan := none, starve := 0,
    last := Contribution.zero, endReason := none }

/-! ## Mixer (R21) -/

/-- The mixer's state (R21). `outL`, `outR` are the frame being driven on the line; `nextL`, `nextR` the
frame computed last, which the line carries in the following frame period (R36). -/
structure Mixer where
  alg : Int
  arg : Int
  als : Int
  ars : Int
  am : Int
  mg : Nat
  ms : Nat
  dk : Nat
  clip : Nat
  frames : Nat
  motorMix : Int
  frameMotor : Int
  duckLast : Bool
  marks : Vector Bool 16
  nextL : Int
  nextR : Int
  outL : Int
  outR : Int
  deriving DecidableEq, Repr

/-- The mixer after console power-up and after console reset (R21). -/
def Mixer.initial : Mixer :=
  { alg := 0, arg := 0, als := 0, ars := 0, am := 0, mg := 128, ms := 128, dk := 256, clip := 0,
    frames := 0, motorMix := 0, frameMotor := 0, duckLast := false, marks := Vector.replicate 16 false,
    nextL := 0, nextR := 0, outL := 0, outR := 0 }

/-! ## Fetch engine (R39) and private memory arbiter (R47) -/

/-- The channel states (R39). -/
inductive ChannelState where
  | idle
  | priming
  | streaming
  | drained
  deriving DecidableEq, Repr

/-- A fetch channel (R39); the fill is the FIFO's length. -/
structure Channel where
  state : ChannelState
  bps : Nat
  next : Nat
  toEnd : Nat
  loopAddr : Option Nat
  fifo : List Byte
  skip : Nat
  inFlight : Bool
  discard : Bool
  deriving DecidableEq, Repr

/-- A channel after console power-up (R39); the addresses and the bytes per sample of an IDLE channel are the
model's choice (log entry 11). -/
def Channel.initial : Channel :=
  { state := .idle, bps := 1, next := 0, toEnd := 0, loopAddr := none, fifo := [], skip := 0,
    inFlight := false, discard := false }

/-- The two directory pages (R93). -/
inductive PageId where
  | a
  | b
  deriving DecidableEq, Repr

/-- The work a store operation belongs to (R50). `mountPage` and `page` carry the burst's place in the
page; `data` the master and tag of its SAVE_DATA, and for the last burst of that request the cursor its
reply carries (R116). -/
inductive OpOwner where
  | mountPage (p : PageId) (index : Nat)
  | mountScan
  | data (m : Master) (tag : Byte) (reply : Option Nat)
  | page (index : Nat)
  | copyRead
  | copyWrite
  | load (m : Master)
  | verify
  deriving DecidableEq, Repr

/-- A store engine operation: one SRAM burst at a 32-byte boundary (R93); a write carries its bytes. -/
structure StoreOp where
  owner : OpOwner
  addr : Nat
  bytes : Option (List Byte)
  deriving DecidableEq, Repr

/-- The burst in flight with its holder (R47). `discard` says that the work it belonged to has ended
(R118, R130, R135, R161). -/
inductive Burst where
  | fetch (v : Fin 16) (addr len : Nat)
  | store (op : StoreOp) (discard : Bool)
  | boot (index : Nat) (discard : Bool)
  deriving DecidableEq, Repr

/-- The arbiter's grant state (R47). -/
structure Arbiter where
  inFlight : Option Burst
  runCount : Nat
  deriving DecidableEq, Repr

/-! ## Rumble driver (R55) -/

/-- The motor states (R55). -/
inductive MotorState where
  | coast
  | fwd
  | rev
  | brake
  | cutoff
  | disabled
  deriving DecidableEq, Repr

/-- What a tick asks for (R55). -/
inductive Target where
  | coast
  | fwd
  | rev
  deriving DecidableEq, Repr

/-- The direction the motor was last driven in since the last completed brake (R55). -/
inductive Direction where
  | none
  | fwd
  | rev
  deriving DecidableEq, Repr

/-- The two gates of a leg. -/
inductive Side where
  | high
  | low
  deriving DecidableEq, Repr

/-- A leg's dead-time guard (R58): the count and the gate that last turned off. -/
structure LegGuard where
  count : Nat
  last : Option Side
  deriving DecidableEq, Repr

/-- A leg of the bridge: its two gates and its guard. -/
structure LegState where
  high : Bool
  low : Bool
  guard : LegGuard
  deriving DecidableEq, Repr

/-- The rumble driver's state (R55). `driven`, `drivenDuty` are the state and duty the gates follow until
a pending result is taken up (R62). The cutoff is latched while the motor state is CUTOFF (R55). -/
structure Rumble where
  state : MotorState
  duty : Nat
  drive : Int
  target : Target
  lastDir : Direction
  brakeTimer : Nat
  remembered : Target
  rememberedDuty : Nat
  pending : Option (MotorState × Nat)
  heat : Nat
  derated : Bool
  stale : Bool
  staleTimer : Nat
  enabled : Bool
  strength : Nat
  carrier : Nat
  legA : LegState
  legB : LegState
  cutoffInput : Bool
  driven : MotorState
  drivenDuty : Nat
  deriving DecidableEq, Repr

/-- A leg with both gates off and no guard record (R55). -/
def LegState.initial : LegState := { high := false, low := false, guard := ⟨0, none⟩ }

/-- The driver after console power-up and after console reset (R55), with the level its cutoff input
stands at. -/
def Rumble.initial (cutoffInput : Bool) : Rumble :=
  { state := .coast, duty := 0, drive := 0, target := .coast, lastDir := .none, brakeTimer := 0,
    remembered := .coast, rememberedDuty := 0, pending := none, heat := 0, derated := false,
    stale := false, staleTimer := staleCounts, enabled := true, strength := builtIn.strength,
    carrier := 0, legA := LegState.initial, legB := LegState.initial, cutoffInput := cutoffInput,
    driven := .coast, drivenDuty := 0 }

/-! ## Game clock (R74, R77) -/

/-- The clock's counting half, in the battery domain (R74), with the SRAM write gate (R151). -/
structure BatteryDomain where
  sec : Nat
  prescaler : Nat
  hold : Nat
  minute : Nat
  trim : Int
  pendingTrim : Option Int
  zone : Int
  dhw : Nat
  valid : Bool
  marker : Bool
  gateOpen : Bool
  deriving DecidableEq, Repr

/-- The battery domain after a battery-domain restart (R74, R152). -/
def BatteryDomain.restarted : BatteryDomain :=
  { sec := 0, prescaler := 0, hold := 0, minute := 0, trim := 0, pendingTrim := none, zone := 0,
    dhw := 0, valid := false, marker := true, gateOpen := false }

/-- The progress of a RATE_CHECK (R77). -/
inductive RateState where
  | idle
  | armed
  | counting
  deriving DecidableEq, Repr

/-- The clock's console half (R77); the day boundary B is in the loaded configuration. -/
structure ClockConsole where
  dayEval : Bool
  rate : RateState
  target : Nat
  edges : Nat
  ticks : Nat
  gap : Nat
  tag : Byte
  deriving DecidableEq, Repr

/-- The console half after console power-up and after console reset (R77). -/
def ClockConsole.initial : ClockConsole :=
  { dayEval := false, rate := .idle, target := 0, edges := 0, ticks := 0, gap := 0, tag := 0 }

/-! ## Save store (R94, R95, R99, R113, R119, R126, R128, R132) -/

/-- The store states (R99). -/
inductive StoreState where
  | offline
  | mounting
  | formatting
  | ready
  deriving DecidableEq, Repr

/-- The mount results (R99); none is an absent result. -/
inductive MountResult where
  | normal
  | onePage
  | formatted
  deriving DecidableEq, Repr

/-- Who wrote a slot (R95). -/
inductive Writer where
  | game
  | system
  | copy
  deriving DecidableEq, Repr

/-- The fields that a VALID or DAMAGED slot entry has and an EMPTY one lacks (R95), with its chain. The
first block is the head of the chain, none when it is empty. -/
structure SlotBody where
  damaged : Bool
  length : Nat
  check : Word
  seconds : Nat
  day : Nat
  writer : Writer
  copiedFrom : Option Nat
  chain : List Nat
  deriving DecidableEq, Repr

/-- A slot entry (R95): EMPTY without a body, VALID or DAMAGED with one. -/
structure SlotEntry where
  serial : Nat
  locked : Bool
  body : Option SlotBody
  deriving DecidableEq, Repr

/-- The slot states (R95). -/
inductive SlotState where
  | empty
  | valid
  | damaged
  deriving DecidableEq, Repr

/-- An EMPTY slot entry as a format writes it (R101). -/
def SlotEntry.initial : SlotEntry := { serial := 0, locked := false, body := none }

/-- The working directory (R102): the block map is the chains'. -/
structure Directory where
  gen : Nat
  dhw : Nat
  slots : Vector SlotEntry 32
  deriving DecidableEq, Repr

/-- The directory before a mount: no slot holds anything. -/
def Directory.initial : Directory :=
  { gen := 0, dhw := 0, slots := Vector.replicate 32 SlotEntry.initial }

/-- The mount's scan of one slot (R104): the bytes of content and the bursts still to come, and the slots
after it. -/
structure Scan where
  slot : Fin 32
  crc : Word
  contentLeft : Nat
  burstsLeft : Nat
  rest : List (Fin 32)
  deriving DecidableEq, Repr

/-- A mount in progress (R100): the bytes of each page read so far, and the scan. -/
structure Mount where
  pageA : List Byte
  pageB : List Byte
  scan : Option Scan
  deriving DecidableEq, Repr

/-- The transaction states (R113). -/
inductive TxnState where
  | opened
  | filled
  | committing
  deriving DecidableEq, Repr

/-- A write transaction (R113). -/
structure Txn where
  slot : Fin 32
  length : Nat
  state : TxnState
  reservation : List Nat
  cursor : Nat
  running : Word
  region : List Byte
  deriving DecidableEq, Repr

/-- A LOAD_DATA not yet answered (R129): its tag, the content bytes it takes from which position on, its
bursts left, and what it has gathered. -/
structure LoadReq where
  tag : Byte
  start : Nat
  take : Nat
  burstsLeft : Nat
  got : List Byte
  deriving DecidableEq, Repr

/-- A read cursor (R128). -/
structure Cursor where
  slot : Fin 32
  chain : List Nat
  length : Nat
  check : Word
  serial : Nat
  pos : Nat
  running : Word
  loads : List LoadReq
  deriving DecidableEq, Repr

/-- The running copy (R126, R127). `queued` is set once its copy-commit entry is appended. -/
structure Copy where
  requester : Master
  tag : Byte
  source : Fin 32
  destination : Fin 32
  chain : List Nat
  length : Nat
  check : Word
  serial : Nat
  reservation : List Nat
  region : Nat
  crc : Word
  queued : Bool
  deriving DecidableEq, Repr

/-- The scopes of STORE_VERIFY (R131). -/
inductive VerifyScope where
  | one (s : Fin 32)
  | game
  | system
  | all
  deriving DecidableEq, Repr

/-- The slot a verify is reading (R133). -/
structure VerifySlot where
  slot : Fin 32
  serial : Nat
  chain : List Nat
  length : Nat
  check : Word
  region : Nat
  crc : Word
  deriving DecidableEq, Repr

/-- The running verify (R132, R133): its scope, requesters in the order they joined, the slots not yet
reached, the slot being read, and its counts. -/
structure Verify where
  scope : VerifyScope
  requesters : List (Master × Byte)
  rest : List (Fin 32)
  current : Option VerifySlot
  checked : Nat
  damaged : Nat
  deriving DecidableEq, Repr

/-- The pending verify (R132). -/
structure PendingVerify where
  scope : VerifyScope
  requesters : List (Master × Byte)
  deriving DecidableEq, Repr

/-- The kinds of commit queue entry (R119). -/
inductive EntryKind where
  | txn
  | erase
  | copy
  | lock (on : Bool)
  deriving DecidableEq, Repr

/-- A commit queue entry (R119): its kind, slot, requester and the tag of the request it answers. -/
structure Entry where
  kind : EntryKind
  slot : Fin 32
  requester : Master
  tag : Byte
  deriving DecidableEq, Repr

/-- The directory page write in flight (R98, R108): its target, the image, the entry it carries out (none
for a format), the blocks it drops, the bursts not yet completed, and whether a console reset has cut off
the effects of its commit point. -/
structure PageWrite where
  target : PageId
  image : Directory
  entry : Option Entry
  released : List Nat
  left : Nat
  orphan : Bool
  deriving DecidableEq, Repr

/-- The save store controller's state (R99, R112). -/
structure Store where
  state : StoreState
  active : Option PageId
  result : Option MountResult
  headerNg : Option Nat
  dir : Directory
  mount : Option Mount
  ops : List StoreOp
  txnGame : Option Txn
  txnSystem : Option Txn
  cursorGame : Option Cursor
  cursorSystem : Option Cursor
  copy : Option Copy
  verify : Option Verify
  pendingVerify : Option PendingVerify
  commits : List Entry
  pageWrite : Option PageWrite
  deriving DecidableEq, Repr

/-- The store controller after console power-up (R99, R112). -/
def Store.initial : Store :=
  { state := .offline, active := none, result := none, headerNg := none, dir := Directory.initial,
    mount := none, ops := [], txnGame := none, txnSystem := none, cursorGame := none,
    cursorSystem := none, copy := none, verify := none, pendingVerify := none, commits := [],
    pageWrite := none }

/-! ## Fault log (R141) -/

/-- The fault kinds, in the order of R142's table. -/
inductive FaultKind where
  | accessDenied
  | storeBlank
  | directoryDamaged
  | slotDamaged
  | voiceStarved
  | motorCutoff
  | motorDerated
  | configInvalid
  | batteryWeak
  | batteryLost
  deriving DecidableEq, Repr

/-- Which master a fault is for (R141). -/
inductive Concerned where
  | game
  | system
  | both
  deriving DecidableEq, Repr

/-- A fault record (R141). The kind tells whether a subject is a slot or a voice. -/
structure FaultRecord where
  valid : Bool
  kind : FaultKind
  concerned : Concerned
  subject : Option Nat
  sec : Nat
  repeats : Nat
  deriving DecidableEq, Repr

/-- A record that holds no fault; its other fields have no meaning, and their values, the repeat count 1 among
them, are the model's choice (R141, log entry 11). -/
def FaultRecord.initial : FaultRecord :=
  { valid := false, kind := .accessDenied, concerned := .game, subject := none, sec := 0,
    repeats := 1 }

/-- The fault log (R141). -/
structure FaultLog where
  records : Vector FaultRecord 8
  w : Fin 8
  overflow : Bool
  lost : Nat
  deriving DecidableEq, Repr

/-- The fault log after console power-up (R149). -/
def FaultLog.initial : FaultLog :=
  { records := Vector.replicate 8 FaultRecord.initial, w := 0, overflow := false, lost := 0 }

/-! ## Battery monitor and boot loader (R150, R151, R157) -/

/-- The supply states (R150). -/
inductive Supply where
  | consoleOn
  | batteryHold
  | batteryLost
  deriving DecidableEq, Repr

/-- The start-up phases (R151). -/
inductive StartPhase where
  | held
  | waiting
  | loading
  | loaded
  deriving DecidableEq, Repr

/-- The configuration sources (R157, R172). -/
inductive ConfigSource where
  | none
  | block
  | defaults
  deriving DecidableEq, Repr

/-- The battery monitor's console items (R151) and the supply state (R150); the write gate is in the
battery domain. -/
structure Monitor where
  supply : Supply
  weak : Bool
  lostAtPowerUp : Bool
  weakLogged : Bool
  deriving DecidableEq, Repr

/-- The boot loader (R151, R157, R51): the phase, the values in force, where they came from, and the
configuration read: bursts granted and bytes gathered. -/
structure Boot where
  phase : StartPhase
  cfg : LoadedConfig
  source : ConfigSource
  clamped : Nat
  granted : Nat
  bytes : List Byte
  deriving DecidableEq, Repr

/-- The boot loader after console power-up (R151, R157). -/
def Boot.initial : Boot :=
  { phase := .loading, cfg := builtIn, source := .none, clamped := 0, granted := 0, bytes := [] }

/-! ## Ports (R163) -/

/-- The result codes (10.9, R174). -/
inductive Code where
  | ok
  | notReady
  | badRequest
  | denied
  | range
  | busy
  | slotBusy
  | noSpace
  | empty
  | damaged
  | locked
  | incomplete
  | noTransaction
  | stale
  | noVoice
  | cutoffActive
  | timeout
  deriving DecidableEq, Repr

/-- A reply: the request's kind and tag, the code, the result bytes (R174). -/
structure Reply where
  kind : Byte
  tag : Byte
  code : Code
  result : List Byte
  deriving DecidableEq, Repr

/-- The reasons of TXN_LOST (R125, R174). -/
inductive LostReason where
  | erased
  | replaced
  | locked
  deriving DecidableEq, Repr

/-- The reasons of MOTOR_STATE, in the order of R73's table. -/
inductive MotorReason where
  | cutoffInput
  | supplyFailing
  | inputChanged
  | resumed
  | derateOn
  | derateOff
  | staleOn
  | staleOff
  | enableChanged
  deriving DecidableEq, Repr

/-- The notices (R174). -/
inductive Notice where
  | dayTurned (old new : Nat)
  | voiceEnded (handle : Byte) (reason : EndReason)
  | txnLost (slot : Fin 32) (reason : LostReason)
  | faultLogged (index : Fin 8) (kind : FaultKind) (concerned : Concerned) (subject : Option Nat)
  | storeReady (result : Option MountResult) (gen valid damaged : Nat)
  | motorState (reason : MotorReason) (state : MotorState) (derated stale enabled : Bool)
      (strength : Nat) (cutoffInput : Bool)
  | noticesLost (count : Nat)
  deriving DecidableEq, Repr

/-- The queues that both ports have (R163). `reserved` counts the slots reserved for requests handed to
their jobs; `replies` the slots that hold a reply, in reply order; each reply and notice carries the number
of its placing (R166). -/
structure Queues where
  requests : List Request
  reserved : Nat
  replies : List (Nat × Reply)
  notices : List (Nat × Notice)
  lost : Nat
  placed : Nat
  deriving DecidableEq, Repr

/-- Queues after console power-up and after console reset (R163). -/
def Queues.initial : Queues :=
  { requests := [], reserved := 0, replies := [], notices := [], lost := 0, placed := 0 }

/-- Which status word the next read of PORT STATUS returns (R173). -/
inductive StatusPointer where
  | a
  | b
  deriving DecidableEq, Repr

/-- The game bus port (R163, R164, R165, R173). -/
structure GamePort where
  q : Queues
  assembly : Option (List Word)
  overflow : Bool
  attention : Bool
  replyPos : Nat
  noticePos : Nat
  pointer : StatusPointer
  deriving DecidableEq, Repr

/-- What the system link port is receiving (10.3): nothing, or a frame's bytes after its start marker;
`ready` says whether the ready line was active at the marker. -/
inductive LinkRx where
  | idle
  | frame (ready : Bool) (bytes : List Byte)
  deriving DecidableEq, Repr

/-- The system link port (R163, R166, 10.3). `sent` counts the bytes of the frame being sent that have gone
out; 0 while no frame is being sent. -/
structure SystemPort where
  q : Queues
  rx : LinkRx
  bad : Nat
  unready : Nat
  sent : Nat
  deriving DecidableEq, Repr

/-- The game bus port after console power-up and after console reset (R163, R173). -/
def GamePort.initial : GamePort :=
  { q := Queues.initial, assembly := none, overflow := false, attention := false, replyPos := 0,
    noticePos := 0, pointer := .a }

/-- The system link port after console power-up and after console reset (R163). The spec does not say whether the
rest of a frame that was coming in is still passed over; in the model it is forgotten with the assembly, so that a
later start marker byte among its bytes begins a frame (DESIGN CHOICE, log entry 49). -/
def SystemPort.initial : SystemPort :=
  { q := Queues.initial, rx := .idle, bad := 0, unready := 0, sent := 0 }

/-! ## The whole part -/

/-- The VS4 with its two memories. Model's own fields: `pending`, the commands that wait; `busData`, the
word the last read of the game bus port returned; `linkOut`, the last frame sent, whole or cut off; `free`, how many free
values have been drawn (log entry 28). -/
structure State where
  voices : Vector Voice 16
  age : List (Fin 16)
  mx : Mixer
  channels : Vector Channel 16
  pma : Arbiter
  rd : Rumble
  bd : BatteryDomain
  gc : ClockConsole
  ss : Store
  fl : FaultLog
  bm : Monitor
  bl : Boot
  game : GamePort
  sys : SystemPort
  rom : Memory
  sram : Memory
  busData : Word
  linkOut : List Byte
  free : Nat
  pending : List Instr
  deriving DecidableEq, Repr

/-- Why a step stops. -/
inductive Fault where
  /-- Raised by FETCH_BURST_COMPLETE and CONFIG_BURST_COMPLETE for a burst that reaches past the sample
  ROM's 16,777,216 byte addresses (00, external memories). Safe: the part has no such address, and R52
  keeps every started voice below it. Log entry 31. -/
  | romAddress
  /-- Raised by the completions of store operations for a burst that reaches past the SRAM's 131,072 bytes
  (R93). Safe: no operation the store places has such an address. Log entry 31. -/
  | sramAddress
  deriving DecidableEq, Repr

/-- Why a command is refused. -/
inductive Refusal where
  /-- Raised by an arm of `exec` whose command has no meaning yet; no arm does so. Safe. -/
  | notModelled (mnemonic : String)
  deriving DecidableEq, Repr

/-- The part right after a battery-domain restart, before its first console power-up: the battery domain as
R74 and R152 give it, the supply state BATTERY_HOLD (R152), the console domain's items at the values their
tables give for console power-up, both memories with nothing listed, no command waiting. Log entry 1. -/
def State.reset : State :=
  { voices := Vector.replicate 16 Voice.initial
    age := []
    mx := Mixer.initial
    channels := Vector.replicate 16 Channel.initial
    pma := { inFlight := none, runCount := 0 }
    rd := Rumble.initial false
    bd := BatteryDomain.restarted
    gc := ClockConsole.initial
    ss := Store.initial
    fl := FaultLog.initial
    bm := { supply := .batteryHold, weak := false, lostAtPowerUp := false, weakLogged := false }
    bl := Boot.initial
    game := GamePort.initial
    sys := SystemPort.initial
    rom := []
    sram := []
    busData := 0
    linkOut := []
    free := 0
    pending := [] }

end Sys2Proof.Machine
end

