-- ==== Sys2Proof/Machine/Operands.lean ====
section
/-! DEFINITION. Operand forms: handles, clamps, the encodings of named values and of the fields of replies
and notices (R174), and their words on the game bus and frames on the link (11.1, 11.2). -/

namespace Sys2Proof.Machine

/-- Replaces element `i` of a vector. -/
def putAt {α : Type} {n : Nat} (xs : Vector α n) (i : Fin n) (x : α) : Vector α n :=
  xs.set i.val x i.isLt

/-- An input beyond its range is replaced by the nearest value in range (00, Conventions). -/
def clamp (lo hi x : Nat) : Nat := max lo (min hi x)

/-- The clamp of signed values. -/
def clampInt (lo hi x : Int) : Int := max lo (min hi x)

/-- A signed value brought into 16 bits (R33, R34). -/
def saturate16 (x : Int) : Int := clampInt (-32768) 32767 x

/-- Quotient rounded up, for counts of blocks and regions. -/
def ceilDiv (a b : Nat) : Nat := (a + b - 1) / b

/-! ## Handles (R3, R174) -/

/-- A handle: the voice number in bits 3-0, the generation in bits 7-4. -/
def mkHandle (v : Fin 16) (gen : BitVec 4) : Byte := gen ++ BitVec.ofNat 4 v.val

/-- The voice number a handle names. -/
def handleVoice (h : Byte) : Fin 16 := (h.extractLsb' 0 4).toFin

/-- The generation a handle carries. -/
def handleGen (h : Byte) : BitVec 4 := h.extractLsb' 4 4

/-- A slot parameter, none above 31 (R138). -/
def slotOf (b : Byte) : Option (Fin 32) :=
  if h : b.toNat < 32 then some ⟨b.toNat, h⟩ else none

/-- A fault record index, none above 7 (R146). -/
def recordOf (b : Byte) : Option (Fin 8) :=
  if h : b.toNat < 8 then some ⟨b.toNat, h⟩ else none

/-! ## Field widths (R174) -/

/-- A one-byte field. -/
def u8 (n : Nat) : List Byte := [BitVec.ofNat 8 n]

/-- A two-byte field. -/
def u16 (n : Nat) : List Byte := bytes16 (BitVec.ofNat 16 n)

/-- A four-byte field. -/
def u32 (n : Nat) : List Byte := bytes32 (BitVec.ofNat 32 n)

/-- A one-byte signed field. -/
def i8 (z : Int) : List Byte := [BitVec.ofInt 8 z]

/-- A two-byte signed field. -/
def i16 (z : Int) : List Byte := bytes16 (BitVec.ofInt 16 z)

/-- A yes or no field. -/
def flag (b : Bool) : List Byte := [writeFlag b]

/-- An optional field of the given width: a presence byte, then the field or zeros. -/
def optional (width : Nat) (field : Option (List Byte)) : List Byte :=
  match field with
  | none => 0 :: List.replicate width 0
  | some bytes => 1 :: bytes

/-! ## Named values, numbered in the order their defining table or rule lists them (R174) -/

def VoiceState.code : VoiceState → Nat
  | .free => 0 | .keyed => 1 | .playing => 2 | .releasing => 3

def EnvPhase.code : EnvPhase → Nat
  | .attack => 0 | .decay => 1 | .sustain => 2

def masterCode : Master → Nat
  | .game => 0 | .system => 1

def Destination.code : Destination → Nat
  | .speaker => 0 | .motor => 1

def EndReason.code : EndReason → Nat
  | .endOfSample => 0 | .released => 1 | .stopped => 2 | .stolen => 3 | .starved => 4 | .reset => 5

def MotorState.code : MotorState → Nat
  | .coast => 0 | .fwd => 1 | .rev => 2 | .brake => 3 | .cutoff => 4 | .disabled => 5

def Target.code : Target → Nat
  | .coast => 0 | .fwd => 1 | .rev => 2

def Direction.code : Direction → Nat
  | .none => 0 | .fwd => 1 | .rev => 2

def MotorReason.code : MotorReason → Nat
  | .cutoffInput => 0 | .supplyFailing => 1 | .inputChanged => 2 | .resumed => 3 | .derateOn => 4
  | .derateOff => 5 | .staleOn => 6 | .staleOff => 7 | .enableChanged => 8

def StoreState.code : StoreState → Nat
  | .offline => 0 | .mounting => 1 | .formatting => 2 | .ready => 3

/-- The mount result, with none last (R99). -/
def mountResultCode : Option MountResult → Nat
  | some .normal => 0 | some .onePage => 1 | some .formatted => 2 | none => 3

/-- The active page, with none last (R99). -/
def activePageCode : Option PageId → Nat
  | some .a => 0 | some .b => 1 | none => 2

def SlotState.code : SlotState → Nat
  | .empty => 0 | .valid => 1 | .damaged => 2

def Writer.code : Writer → Nat
  | .game => 0 | .system => 1 | .copy => 2

def FaultKind.code : FaultKind → Nat
  | .accessDenied => 0 | .storeBlank => 1 | .directoryDamaged => 2 | .slotDamaged => 3
  | .voiceStarved => 4 | .motorCutoff => 5 | .motorDerated => 6 | .configInvalid => 7
  | .batteryWeak => 8 | .batteryLost => 9

def Concerned.code : Concerned → Nat
  | .game => 0 | .system => 1 | .both => 2

def StartPhase.code : StartPhase → Nat
  | .held => 0 | .waiting => 1 | .loading => 2 | .loaded => 3

/-- The configuration source: NONE 0, BLOCK 1, DEFAULTS 2, the order of R172's list. R157, which sets the item, names
BLOCK and DEFAULTS before NONE, and R174 does not say which of the two rules defines it (DESIGN CHOICE, log entry
44). -/
def ConfigSource.code : ConfigSource → Nat
  | .none => 0 | .block => 1 | .defaults => 2

def LostReason.code : LostReason → Nat
  | .erased => 0 | .replaced => 1 | .locked => 2

/-- The battery level: GOOD 0, WEAK 1 (R151). -/
def batteryLevelCode (weak : Bool) : Nat := if weak then 1 else 0

/-- The cutoff input level, active listed first (R72). Log entry 12. -/
def cutoffInputCode (active : Bool) : Nat := if active then 0 else 1

/-- The result codes' values (R174, the code table). -/
def Code.byte : Code → Byte
  | .ok => 0x00 | .notReady => 0x01 | .badRequest => 0x02 | .denied => 0x03 | .range => 0x04
  | .busy => 0x05 | .slotBusy => 0x06 | .noSpace => 0x07 | .empty => 0x08 | .damaged => 0x09
  | .locked => 0x0A | .incomplete => 0x0B | .noTransaction => 0x0C | .stale => 0x0D
  | .noVoice => 0x0E | .cutoffActive => 0x0F | .timeout => 0x10

/-! ## Notices (R174, the notice table) -/

def Notice.kind : Notice → Byte
  | .dayTurned .. => 0x60
  | .voiceEnded .. => 0x61
  | .txnLost .. => 0x62
  | .faultLogged .. => 0x63
  | .storeReady .. => 0x64
  | .motorState .. => 0x65
  | .noticesLost .. => 0x66

def Notice.fields : Notice → List Byte
  | .dayTurned old new => u16 old ++ u16 new
  | .voiceEnded h r => h :: u8 r.code
  | .txnLost s r => u8 s.val ++ u8 r.code
  | .faultLogged i k c subj =>
    u8 i.val ++ u8 k.code ++ u8 c.code ++ optional 1 (subj.map u8)
  | .storeReady r g v d => u8 (mountResultCode r) ++ u32 g ++ u8 v ++ u8 d
  | .motorState r st de sl en s ci =>
    u8 r.code ++ u8 st.code ++ flag de ++ flag sl ++ flag en ++ u8 s ++ u8 (cutoffInputCode ci)
  | .noticesLost n => u16 n

/-! ## Words and frames (11.1, 11.2) -/

/-- The words of parameter or result bytes, two to a word, first byte in bits 7-0, an odd last byte padded
with 0 (11.1). -/
def packWords : List Byte → List Word
  | [] => []
  | [a] => [0x00#8 ++ a]
  | a :: b :: rest => (b ++ a) :: packWords rest

/-- The words of a reply or notice: header, tag word, results (11.1). -/
def messageWords (kind tag code : Byte) (body : List Byte) : List Word :=
  (kind ++ BitVec.ofNat 8 body.length) :: (code ++ tag) :: packWords body

def Reply.words (r : Reply) : List Word := messageWords r.kind r.tag r.code.byte r.result

def Notice.words (n : Notice) : List Word := messageWords n.kind 0 0 n.fields

/-- The payload of a frame: the four-byte header and the body (11.2). -/
def payload (kind tag code : Byte) (body : List Byte) : List Byte :=
  [kind, BitVec.ofNat 8 body.length, tag, code] ++ body

def Reply.payload (r : Reply) : List Byte := Machine.payload r.kind r.tag r.code.byte r.result

def Notice.payload (n : Notice) : List Byte := Machine.payload n.kind 0 0 n.fields

/-- The bytes of two words as they came to REQ: first byte in bits 7-0 (11.1). -/
def unpackWords : List Word → List Byte
  | [] => []
  | w :: rest => w.extractLsb' 0 8 :: w.extractLsb' 8 8 :: unpackWords rest

end Sys2Proof.Machine
end

