-- ==== Sys2Proof/Machine/Flags.lean ====
section
/-! DEFINITION. Everything computed from the state rather than held in it: conditions, lines driven, rights,
block sets, pin counts, locks and claims. -/

namespace Sys2Proof.Machine

/-- The console domain runs: the supply state is CONSOLE_ON (R150, R154). -/
def State.powered (s : State) : Bool := s.bm.supply == .consoleOn

/-- The configuration values are in force (R159). -/
def State.loaded (s : State) : Bool := s.bl.phase == .loaded

/-! ## Voices -/

/-- A voice is in use (R2). -/
def Voice.inUse (v : Voice) : Bool := v.state != .free

/-- A voice contributes to a frame (R23). -/
def Voice.sounds (v : Voice) : Bool := v.state == .playing || v.state == .releasing

/-- The handle of a voice's present or last use (R3). -/
def State.handle (s : State) (v : Fin 16) : Byte := mkHandle v s.voices[v].gen

/-- The voice numbers, ascending. -/
def voiceNumbers : List (Fin 16) := List.finRange 16

/-- The voices in use that a master owns (R2). -/
def State.ownedCount (s : State) (m : Master) : Nat :=
  (voiceNumbers.filter fun v => s.voices[v].inUse && s.voices[v].owner == m).length

/-- Duck is in force: a SYSTEM SPEAKER voice sounds (R32). -/
def State.duckInForce (s : State) : Bool :=
  voiceNumbers.any fun v =>
    s.voices[v].sounds && s.voices[v].owner == .system && s.voices[v].dest == .speaker

/-! ## The audio line (R36) -/

/-- The bits of a sample on the audio line: 16 bits in two's complement, most significant bit first (R36). -/
def sampleBits (x : Int) : List Bool := (List.range 16).map fun i => (BitVec.ofInt 16 x).getLsbD (15 - i)

/-- The frame the audio line carries, in the order of its bits: the left sample and then the right (R36). The time
of each bit on the console's bit clock is left out (log entry 17). -/
def State.audioLine (s : State) : List Bool := sampleBits s.mx.outL ++ sampleBits s.mx.outR

/-! ## Fetch channels (R45) -/

/-- The fill of a channel's FIFO (R39). -/
def Channel.fill (c : Channel) : Nat := c.fifo.length

/-- A channel is ready (R45). -/
def Channel.ready (c : Channel) : Bool :=
  (c.state == .priming || c.state == .streaming) && !c.inFlight && decide (c.fill ≤ 96)
    && decide (0 < c.toEnd)

/-- A ready channel is urgent when its fill is below 48 (R45). -/
def Channel.urgent (c : Channel) : Bool := c.ready && decide (c.fill < 48)

/-! ## Rumble driver (R55, R56) -/

/-- A cutoff is latched (R55). -/
def Rumble.latched (r : Rumble) : Bool := r.state == .cutoff

/-- The DISABLED condition (R55). -/
def Rumble.disabledCondition (r : Rumble) : Bool := !r.enabled || r.strength == 0

/-- The cap in force, in counts (R56). -/
def capInForce (cfg : LoadedConfig) (derated : Bool) : Nat :=
  cfg.pc * (if derated then min 40 cfg.dutyCap else cfg.dutyCap) / 100

/-! ## Game clock (R78 to R80) -/

/-- Local seconds (R78). -/
def localSeconds (sec : Nat) (zone : Int) : Nat := ((sec : Int) + zone * 900).toNat

/-- The calculated game day (R80). -/
def calcDay (ls boundary : Nat) : Nat := if ls < boundary then 0 else (ls - boundary) / 86400

/-- G_calc as the clock stands (R80). -/
def State.calcDay (s : State) : Nat :=
  Machine.calcDay (localSeconds s.bd.sec s.bd.zone) s.bl.cfg.boundary

/-- The reported game day GD (R80). -/
def State.gameDay (s : State) : Nat := max s.calcDay s.bd.dhw

/-- The held flag (R80). -/
def State.held (s : State) : Bool := decide (s.calcDay < s.bd.dhw)

/-! ## Slots and rights (R95, R137) -/

/-- A slot entry's state (R95). -/
def SlotEntry.state (e : SlotEntry) : SlotState :=
  match e.body with
  | none => .empty
  | some b => if b.damaged then .damaged else .valid

/-- A slot entry's chain, empty for an EMPTY slot (R95). -/
def SlotEntry.chain (e : SlotEntry) : List Nat :=
  match e.body with
  | none => []
  | some b => b.chain

/-- A slot is a game slot (R137). -/
def isGameSlot (ng : Nat) (s : Fin 32) : Bool := decide (s.val < ng)

/-- The read right (R137). -/
def readRight (cfg : LoadedConfig) (m : Master) (s : Fin 32) : Bool :=
  match m with
  | .system => true
  | .game => isGameSlot cfg.ng s || cfg.visible

/-- The write right (R137). -/
def writeRight (cfg : LoadedConfig) (m : Master) (s : Fin 32) : Bool :=
  match m with
  | .game => isGameSlot cfg.ng s
  | .system => !isGameSlot cfg.ng s

/-- The erase right (R137). -/
def eraseRight (cfg : LoadedConfig) (m : Master) (s : Fin 32) : Bool :=
  match m with
  | .game => isGameSlot cfg.ng s
  | .system => true

/-- The copy-in right (R137). -/
def copyInRight (m : Master) : Bool := m == .system

/-- The lock right (R137). -/
def lockRight (m : Master) : Bool := m == .system

/-- The master a fault about a slot concerns (R142). -/
def slotConcern (ng : Nat) (s : Fin 32) : Concerned := if isGameSlot ng s then .game else .system

/-! ## The store (R106, R109, R114, R119) -/

/-- The data block numbers, ascending (R93). -/
def dataBlocks : List Nat := (List.range 496).map (· + 16)

/-- A master's write transaction (R113). -/
def Store.txn (ss : Store) : Master → Option Txn
  | .game => ss.txnGame
  | .system => ss.txnSystem

/-- A master's read cursor (R128). -/
def Store.cursor (ss : Store) : Master → Option Cursor
  | .game => ss.cursorGame
  | .system => ss.cursorSystem

/-- The chain that a reader of a cursor pins. -/
def cursorChain : Option Cursor → List Nat
  | none => []
  | some c => c.chain

/-- The chain that the running copy pins (R126). -/
def copyChain : Option Copy → List Nat
  | none => []
  | some c => c.chain

/-- The chain of the slot that the running verify is reading (R133). -/
def verifyChain : Option Verify → List Nat
  | none => []
  | some v => match v.current with
    | none => []
    | some c => c.chain

/-- The blocks reserved by a transaction (R107). -/
def txnBlocks : Option Txn → List Nat
  | none => []
  | some t => t.reservation

/-- The blocks reserved by the running copy (R107). -/
def copyBlocks : Option Copy → List Nat
  | none => []
  | some c => c.reservation

/-- A block's pin count: one for each reader whose chain holds it (R109). -/
def Store.pins (ss : Store) (b : Nat) : Nat :=
  ([cursorChain ss.cursorGame, cursorChain ss.cursorSystem, copyChain ss.copy,
    verifyChain ss.verify].filter fun chain => chain.contains b).length

/-- The blocks that the page write in flight drops from every chain (R108). -/
def Store.releasing (ss : Store) : List Nat :=
  match ss.pageWrite with
  | none => []
  | some w => w.released

/-- A block is in a chain of the working directory (R106). -/
def Store.inChain (ss : Store) (b : Nat) : Bool := ss.dir.slots.toList.any fun e => e.chain.contains b

/-- A block is held by a transaction or the running copy (R106). -/
def Store.isReserved (ss : Store) (b : Nat) : Bool :=
  (txnBlocks ss.txnGame).contains b || (txnBlocks ss.txnSystem).contains b
    || (copyBlocks ss.copy).contains b

/-- The five block sets, in the order of R106's table. -/
inductive BlockSet where
  | committingReleased
  | chained
  | reserved
  | pinnedReleased
  | free
  deriving DecidableEq, Repr

/-- The set a block stands in, by R106's table. -/
def Store.blockSet (ss : Store) (b : Nat) : BlockSet :=
  if ss.inChain b then
    (if ss.releasing.contains b then .committingReleased else .chained)
  else if ss.isReserved b then .reserved
  else if 0 < ss.pins b then .pinnedReleased
  else .free

/-- The free pool, lowest block first (R107). -/
def Store.freeBlocks (ss : Store) : List Nat := dataBlocks.filter fun b => ss.blockSet b == .free

/-- The number of blocks in a set (R110). -/
def Store.setCount (ss : Store) (k : BlockSet) : Nat :=
  (dataBlocks.filter fun b => ss.blockSet b == k).length

/-- The lock value that the newest lock entry of a slot carries among queued entries (R114). -/
def queuedLock (slot : Fin 32) : List Entry → Option Bool
  | [] => none
  | e :: rest =>
    match queuedLock slot rest with
    | some v => some v
    | none => match e.kind with
      | .lock on => if e.slot = slot then some on else none
      | _ => none

/-- The lock value of the entry whose page write is in flight (R114). -/
def flyingLock (slot : Fin 32) : Option PageWrite → Option Bool
  | none => none
  | some w => match w.entry with
    | none => none
    | some e => queuedLock slot [e]

/-- The lock that requests see for a slot (R114). -/
def Store.lockSeen (ss : Store) (slot : Fin 32) : Bool :=
  match queuedLock slot ss.commits with
  | some v => v
  | none => match flyingLock slot ss.pageWrite with
    | some v => v
    | none => ss.dir.slots[slot].locked

/-- A transaction names the slot (R114). -/
def txnNames (slot : Fin 32) : Option Txn → Bool
  | none => false
  | some t => t.slot == slot

/-- A transaction names the slot and is OPEN or FILLED. -/
def txnNamesOpen (slot : Fin 32) : Option Txn → Bool
  | none => false
  | some t => t.slot == slot && t.state != .committing

/-- The running copy's destination is the slot (R114). -/
def copyClaims (slot : Fin 32) : Option Copy → Bool
  | none => false
  | some c => c.destination == slot

/-- The slot is claimed (R114). -/
def Store.claimed (ss : Store) (slot : Fin 32) : Bool :=
  txnNames slot ss.txnGame || txnNames slot ss.txnSystem || copyClaims slot ss.copy

/-- The commit queue's places taken, the running copy's held place among them (R119). -/
def Store.placesTaken (ss : Store) : Nat :=
  ss.commits.length + (match ss.copy with
    | none => 0
    | some c => if c.queued then 0 else 1)

/-- The commit queue has no free place (R119). -/
def Store.queueFull (ss : Store) : Bool := decide (commitPlaces ≤ ss.placesTaken)

/-- The slots in the VALID or DAMAGED state, counted (R105, R110). -/
def Directory.countState (d : Directory) (st : SlotState) : Nat :=
  (d.slots.toList.filter fun e => e.state == st).length

/-- The directory page that is not active (R98); page A before any page is active (R101). -/
def targetPage : Option PageId → PageId
  | some .a => .b
  | some .b => .a
  | none => .a

/-- The burst in flight when it is a store operation that still counts. -/
def Arbiter.storeOp (p : Arbiter) : Option StoreOp :=
  match p.inFlight with
  | some (.store op false) => some op
  | _ => none

/-! ## Fault log (R141, R143) -/

/-- A concerned value takes in a master (R141). -/
def Concerned.includes : Concerned → Master → Bool
  | .both, _ => true
  | .game, .game => true
  | .system, .system => true
  | _, _ => false

/-- The concerned value of one master. -/
def concernOf : Master → Concerned
  | .game => .game
  | .system => .system

/-- The record indices, ascending. -/
def recordNumbers : List (Fin 8) := List.finRange 8

/-- A valid record concerns a master (R141). -/
def FaultRecord.concerns (r : FaultRecord) (m : Master) : Bool := r.valid && r.concerned.includes m

/-- The valid records that concern a master, counted (R146). -/
def FaultLog.countFor (fl : FaultLog) (m : Master) : Nat :=
  (recordNumbers.filter fun i => fl.records[i].concerns m).length

/-- The newest valid record: backward from W - 1 (R143). -/
def FaultLog.newest (fl : FaultLog) : Option (Fin 8) :=
  (recordNumbers.map fun k => fl.w - 1 - k).find? fun i => fl.records[i].valid

/-- The first pending index: forward from W (R143). -/
def FaultLog.firstPending (fl : FaultLog) : Option (Fin 8) :=
  (recordNumbers.map fun k => fl.w + k).find? fun i => fl.records[i].valid

/-! ## Ports and lines (R163 to R167, R173) -/

/-- A master's queues. -/
def State.queues (s : State) : Master → Queues
  | .game => s.game.q
  | .system => s.sys.q

/-- A reply slot is free (R163). -/
def Queues.slotFree (q : Queues) : Bool := decide (q.reserved + q.replies.length < replySlots)

/-- The place an assembly on the game bus port holds (R164). -/
def GamePort.held (p : GamePort) : Nat := if p.assembly.isSome then 1 else 0

/-- The place a frame being received holds (10.3): one whose marker came while the line was inactive holds
none. -/
def LinkRx.held : LinkRx → Nat
  | .frame true _ => 1
  | _ => 0

/-- Request space: the free places of the request queue not held by an assembly (R164). -/
def GamePort.space (p : GamePort) : Nat := requestPlaces - (p.q.requests.length + p.held)

/-- The system port's free places. -/
def SystemPort.space (p : SystemPort) : Nat := requestPlaces - (p.q.requests.length + p.rx.held)

/-- The system ready line (10.3): a free place, and the console domain running. -/
def State.readyLine (s : State) : Bool := s.powered && decide (0 < s.sys.space)

/-- The cartridge interrupt pin (R167). -/
def State.interruptPin (s : State) : Bool :=
  s.powered && s.game.attention && (!s.game.q.replies.isEmpty || !s.game.q.notices.isEmpty)

/-- The system attention line (R166). -/
def State.systemAttention (s : State) : Bool :=
  s.powered && (!s.sys.q.replies.isEmpty || !s.sys.q.notices.isEmpty)

/-- A bit in a 16-bit status word. -/
def statusBit (b : Bool) (place : Nat) : Nat := if b then 2 ^ place else 0

/-- PORT STATUS word A (R173). -/
def statusA (p : GamePort) : Word :=
  BitVec.ofNat 16 (p.space + p.q.replies.length * 16 + p.q.notices.length * 256)

/-- PORT STATUS word B (R173). -/
def statusB (p : GamePort) (phase : StartPhase) : Word :=
  BitVec.ofNat 16 (32768 + statusBit p.assembly.isSome 0 + statusBit p.overflow 1
    + statusBit p.attention 2 + phase.code * 16)

/-! ## The frames of the system link (10.3, R166) -/

/-- The frame types (11.2). -/
def requestType : Byte := 0x01
def replyType : Byte := 0x02
def noticeType : Byte := 0x03

/-- The bytes of a whole frame (11.2). -/
def frameBytes (type : Byte) (body : List Byte) : List Byte :=
  let covered := type :: BitVec.ofNat 8 body.length :: body
  frameMarker :: covered ++ [crc8 covered]

/-- The oldest of the replies and notices that wait is a notice (R166). -/
def Queues.noticeFirst (q : Queues) : Bool :=
  match q.replies, q.notices with
  | [], _ :: _ => true
  | r :: _, n :: _ => decide (n.1 < r.1)
  | _, [] => false

/-- The frame that is being sent, or is sent next: of the oldest reply or notice (R166). -/
def State.oldestFrame (s : State) : List Byte :=
  if s.sys.q.noticeFirst then
    match s.sys.q.notices with
    | [] => []
    | n :: _ => frameBytes noticeType n.2.payload
  else
    match s.sys.q.replies with
    | [] => []
    | r :: _ => frameBytes replyType r.2.payload

/-- What the link carries last when a console reset cuts off the frame being sent (R166). -/
def State.cutFrame (s : State) : List Byte :=
  if s.sys.sent = 0 then s.linkOut else s.oldestFrame.take s.sys.sent

end Sys2Proof.Machine
end

