-- ==== Sys2Proof/Machine/Ops.lean ====
section
/-! DEFINITION. The operations that every block uses: placing replies and notices (R163, R168, R170),
taking a fault into the log (R144, R145), drawing a free value, and the updates of one record among many. -/

namespace Sys2Proof.Machine

/-- The master, tag and kind of the request being carried out, for its reply (R168). -/
structure Ask where
  m : Master
  tag : Byte
  kind : Byte
  deriving DecidableEq, Repr

/-! ## One record among many -/

def State.setVoice (s : State) (v : Fin 16) (x : Voice) : State :=
  { s with voices := putAt s.voices v x }

def State.setChannel (s : State) (v : Fin 16) (c : Channel) : State :=
  { s with channels := putAt s.channels v c }

def State.setQueues (s : State) (m : Master) (q : Queues) : State :=
  match m with
  | .game => { s with game := { s.game with q := q } }
  | .system => { s with sys := { s.sys with q := q } }

def Store.setTxn (ss : Store) (m : Master) (t : Option Txn) : Store :=
  match m with
  | .game => { ss with txnGame := t }
  | .system => { ss with txnSystem := t }

def Store.setCursor (ss : Store) (m : Master) (c : Option Cursor) : Store :=
  match m with
  | .game => { ss with cursorGame := c }
  | .system => { ss with cursorSystem := c }

def Store.setSlot (ss : Store) (slot : Fin 32) (e : SlotEntry) : Store :=
  { ss with dir := { ss.dir with slots := putAt ss.dir.slots slot e } }

def State.setStore (s : State) (ss : Store) : State := { s with ss := ss }

/-- The next free value: its number, and the state in which it has been drawn. -/
def State.draw (s : State) : Nat × State := (s.free, { s with free := s.free + 1 })

/-! ## Replies and notices -/

/-- Places a reply in the slot reserved for it, at the end of the reply order (R163, R168). -/
def Queues.place (q : Queues) (r : Reply) : Queues :=
  { q with reserved := q.reserved - 1, replies := q.replies ++ [(q.placed, r)],
           placed := q.placed + 1 }

/-- Places a reply at a master's port. -/
def State.reply (s : State) (m : Master) (r : Reply) : State := s.setQueues m ((s.queues m).place r)

/-- Answers the request being carried out. -/
def State.answer (s : State) (a : Ask) (code : Code) (result : List Byte) : State :=
  s.reply a.m { kind := a.kind, tag := a.tag, code := code, result := result }

/-- Refuses the request being carried out: a reply without result fields (R174). -/
def State.refuse (s : State) (a : Ask) (code : Code) : State := s.answer a code []

/-- Places a notice at the tail of a notice queue, or drops and counts it when 16 are there (R170). -/
def Queues.post (q : Queues) (n : Notice) : Queues :=
  if q.notices.length < noticePlaces then
    { q with notices := q.notices ++ [(q.placed, n)], placed := q.placed + 1 }
  else { q with lost := min maxCount (q.lost + 1) }

/-- Posts a notice to a master (R170). -/
def State.post (s : State) (m : Master) (n : Notice) : State := s.setQueues m ((s.queues m).post n)

/-- Posts a notice to both masters, one in each notice queue (00, Conventions). -/
def State.postBoth (s : State) (n : Notice) : State := (s.post .game n).post .system n

/-- A notice has left a queue: a lost count above 0 is placed as NOTICES_LOST in the place freed (R170). -/
def Queues.afterDeparture (q : Queues) : Queues :=
  if q.lost = 0 then q
  else { q with notices := q.notices ++ [(q.placed, .noticesLost q.lost)], placed := q.placed + 1,
                lost := 0 }

/-! ## The fault log -/

/-- Posts FAULT_LOGGED of a record to a master that held no valid record concerning it before and is
concerned now (R145). -/
def State.faultNotice (s : State) (before : FaultLog) (i : Fin 8) (m : Master) : State :=
  let r := s.fl.records[i]
  if r.concerned.includes m && before.countFor m == 0 then
    s.post m (.faultLogged i r.kind r.concerned r.subject)
  else s

/-- The log when a fault is dropped for want of room (R144, step 3) or in overflow (step 1). -/
def FaultLog.drop (fl : FaultLog) : FaultLog :=
  { fl with overflow := true, lost := min 255 (fl.lost + 1) }

/-- A record that has absorbed one more equal fault (R144, step 2). -/
def FaultRecord.absorb (r : FaultRecord) (c : Concerned) : FaultRecord :=
  { r with repeats := min 255 (r.repeats + 1),
           concerned := if r.concerned = c then r.concerned else .both }

/-- Whether a fault coalesces with a record (R144, step 2). -/
def FaultRecord.equals (r : FaultRecord) (k : FaultKind) (subject : Option Nat) : Bool :=
  r.kind == k && r.subject == subject

/-- The log with a record replaced. -/
def FaultLog.setRecord (fl : FaultLog) (i : Fin 8) (r : FaultRecord) : FaultLog :=
  { fl with records := putAt fl.records i r }

/-- Writes or coalesces into record `i` and sends the notices of R145. -/
def State.recordFault (s : State) (fl : FaultLog) (i : Fin 8) : State :=
  let before := s.fl
  let s := { s with fl := fl }
  (s.faultNotice before i .game).faultNotice before i .system

/-- The fault is written at W, or dropped when record W is valid (R144, step 3). -/
def State.writeFault (s : State) (k : FaultKind) (c : Concerned) (subject : Option Nat) : State :=
  if s.fl.records[s.fl.w].valid then { s with fl := s.fl.drop }
  else
    let r : FaultRecord :=
      { valid := true, kind := k, concerned := c, subject := subject, sec := s.bd.sec, repeats := 1 }
    s.recordFault { s.fl.setRecord s.fl.w r with w := s.fl.w + 1 } s.fl.w

/-- The fault log takes a posted fault whole (R144): overflow, coalescing, writing, the first that
applies. -/
def State.postFault (s : State) (k : FaultKind) (c : Concerned) (subject : Option Nat) : State :=
  if s.fl.overflow then { s with fl := s.fl.drop }
  else
    match s.fl.newest with
    | some i =>
      if s.fl.records[i].equals k subject then
        s.recordFault (s.fl.setRecord i (s.fl.records[i].absorb c)) i
      else s.writeFault k c subject
    | none => s.writeFault k c subject

/-- A store request refused for want of a right: the reply DENIED, then ACCESS_DENIED (R140). -/
def State.denyRight (s : State) (a : Ask) (subject : Option Nat) : State :=
  (s.refuse a .denied).postFault .accessDenied (concernOf a.m) subject

/-- A slot found damaged: SLOT_DAMAGED with the slot as its subject (R134, R142). -/
def State.slotDamaged (s : State) (slot : Fin 32) : State :=
  s.postFault .slotDamaged (slotConcern s.bl.cfg.ng slot) (some slot.val)

end Sys2Proof.Machine
end

