-- ==== Sys2Proof/Machine/FaultLog.lean ====
section
/-! DEFINITION. The requests of the fault log (R146 to R148). Taking a fault (R144, R145) is in Ops.lean. -/

namespace Sys2Proof.Machine

/-- A field of a record, present while the record is valid (R146). -/
def FaultRecord.field (r : FaultRecord) (width : Nat) (bytes : List Byte) : List Byte :=
  optional width (if r.valid then some bytes else none)

/-- The fields of a record (R146, R174). -/
def FaultRecord.fields (r : FaultRecord) : List Byte :=
  flag r.valid ++ r.field 1 (u8 r.kind.code) ++ r.field 1 (u8 r.concerned.code)
    ++ optional 1 (if r.valid then r.subject.map u8 else none)
    ++ r.field 4 (u32 r.sec) ++ r.field 1 (u8 r.repeats)

/-- The first pending index as an optional field (R143). -/
def FaultLog.pendingField (fl : FaultLog) : List Byte :=
  optional 1 (fl.firstPending.map fun i => u8 i.val)

/-- The fields of FAULT_READ (R146). -/
def FaultLog.readFields (fl : FaultLog) (i : Fin 8) (m : Master) : List Byte :=
  fl.records[i].fields ++ u8 fl.w.val ++ fl.pendingField ++ u8 (fl.countFor m) ++ flag fl.overflow
    ++ u8 fl.lost

/-- FAULT_READ (R146). -/
def jobFaultRead (a : Ask) (index : Byte) (s : State) : State :=
  match recordOf index with
  | none => s.refuse a .range
  | some i => s.answer a .ok (s.fl.readFields i a.m)

/-- A record cleared becomes not valid (R147). -/
def FaultLog.clear (fl : FaultLog) (i : Fin 8) : FaultLog :=
  fl.setRecord i { fl.records[i] with valid := false }

/-- A master's all-mine takes a record (R147): from the game processor those concerning GAME alone, from
the system processor those that concern SYSTEM. -/
def FaultRecord.mine (r : FaultRecord) (m : Master) : Bool :=
  r.valid && (match m with
    | .game => r.concerned == .game
    | .system => r.concerned.includes .system)

/-- The log after a master's all-mine (R147). -/
def FaultLog.clearMine (fl : FaultLog) (m : Master) : FaultLog :=
  { fl with records := fl.records.map fun r => if r.mine m then { r with valid := false } else r }

/-- The number of records a master's all-mine clears (R147). -/
def FaultLog.mineCount (fl : FaultLog) (m : Master) : Nat :=
  (recordNumbers.filter fun i => fl.records[i].mine m).length

/-- The fields of FAULT_CLEAR's reply: one layout for the three selectors, since a reply has one length for
its kind and code, with the fields that the selector's rule does not give absent (R147, R148, R174; log
entry 13). -/
def clearFields (cleared pending concerning overflow lost : Option (List Byte)) : List Byte :=
  optional 1 cleared ++ optional 1 pending ++ optional 1 concerning ++ optional 1 overflow
    ++ optional 1 lost

/-- The reply of a clear of records: how many were cleared, the first pending index after it, and how many
still concern the requester (R147). -/
def State.clearReply (s : State) (a : Ask) (fl : FaultLog) (cleared : Nat) : State :=
  ({ s with fl := fl } : State).answer a .ok
    (clearFields (some (u8 cleared)) (fl.firstPending.map fun i => u8 i.val)
      (some (u8 (fl.countFor a.m))) none none)

/-- FAULT_CLEAR with the selector index (R147). -/
def jobFaultClearIndex (a : Ask) (index : Byte) (s : State) : State :=
  match recordOf index with
  | none => s.refuse a .range
  | some i =>
    let r := s.fl.records[i]
    if !r.valid then s.clearReply a s.fl 0
    else if a.m = .game ∧ r.concerned ≠ .game then s.refuse a .denied
    else s.clearReply a (s.fl.clear i) 1

/-- FAULT_CLEAR with the selector all-mine (R147). -/
def jobFaultClearAllMine (a : Ask) (s : State) : State :=
  s.clearReply a (s.fl.clearMine a.m) (s.fl.mineCount a.m)

/-- FAULT_CLEAR with the selector overflow (R148). -/
def jobFaultClearOverflow (a : Ask) (s : State) : State :=
  if a.m = .game then s.refuse a .denied
  else
    ({ s with fl := { s.fl with overflow := false, lost := 0 } } : State).answer a .ok
      (clearFields none none none (some (flag s.fl.overflow)) (some (u8 s.fl.lost)))

end Sys2Proof.Machine
end

