-- ==== Sys2Proof/Machine/Rumble.lean ====
section
/-! DEFINITION. The rumble driver (chapter 4): the bridge with its dead time, the tick, heat and derating,
cutoff, disabling and stale drive, and the four rumble requests. -/

namespace Sys2Proof.Machine

/-! ## The bridge (R57, R58) -/

/-- A gate of a leg that is asked on may turn on, as far as the guard goes (R58): the guard records the
gate itself or no gate, or its count is 0. -/
def LegGuard.allows (g : LegGuard) (side : Side) : Bool :=
  g.last == none || g.last == some side || g.count == 0

/-- The gates of a leg that are asked off turn off at once and the guard records it (R58). -/
def LegState.turnOff (l : LegState) (td : Nat) (high low : Bool) : LegState :=
  let l := if l.high && !high then { l with high := false, guard := ⟨td, some .high⟩ } else l
  if l.low && !low then { l with low := false, guard := ⟨td, some .low⟩ } else l

/-- The gates of a leg that are asked on turn on where R58 allows it. -/
def LegState.turnOn (l : LegState) (high low : Bool) : LegState :=
  let l := if high && !l.low && l.guard.allows .high then { l with high := true } else l
  if low && !l.high && l.guard.allows .low then { l with low := true } else l

/-- A leg follows what its gates are asked: turn-offs first, then turn-ons (R57, R58). -/
def LegState.follow (l : LegState) (td : Nat) (high low : Bool) : LegState :=
  (l.turnOff td high low).turnOn high low

/-- A leg's guard count falls by one until it reaches 0 (R58). -/
def LegState.count (l : LegState) : LegState :=
  { l with guard := { l.guard with count := l.guard.count - 1 } }

/-- Whether A-high, A-low, B-high and B-low are asked on in a motor state at a carrier count (R57). -/
def askAHigh (st : MotorState) (duty carrier : Nat) : Bool := st == .fwd && decide (carrier < duty)
def askALow (st : MotorState) : Bool := st == .rev || st == .brake
def askBHigh (st : MotorState) (duty carrier : Nat) : Bool := st == .rev && decide (carrier < duty)
def askBLow (st : MotorState) : Bool := st == .fwd || st == .brake

/-- Both legs follow the state and duty in force at the gates (R57, R62). -/
def Rumble.settleGates (r : Rumble) (td : Nat) : Rumble :=
  { r with
    legA := r.legA.follow td (askAHigh r.driven r.drivenDuty r.carrier) (askALow r.driven)
    legB := r.legB.follow td (askBHigh r.driven r.drivenDuty r.carrier) (askBLow r.driven) }

/-- The gates take up the pending result (R62). -/
def Rumble.takePending (r : Rumble) : Rumble :=
  match r.pending with
  | none => r
  | some (st, duty) => { r with driven := st, drivenDuty := duty, pending := none }

/-- A forced event: all gates off at once, a motor state with duty 0, the pending result discarded, a
brake in progress left (R62, R65, R67, R69, R71). -/
def Rumble.force (r : Rumble) (td : Nat) (st : MotorState) : Rumble :=
  { r with state := st, duty := 0, pending := none, brakeTimer := 0, driven := st, drivenDuty := 0,
           legA := r.legA.follow td false false, legB := r.legB.follow td false false }

/-- The stale timer has run out (R71): in CUTOFF and DISABLED the motor state is kept. -/
def Rumble.expire (r : Rumble) (td : Nat) : Rumble :=
  let r := { r with stale := true, staleTimer := 0 }
  match r.state with
  | .cutoff => r
  | .disabled => r
  | _ => r.force td .coast

/-- The carrier counter advances, and a return to 0 begins a carrier period, at which the pending result
is taken up (R57, R62). A counter that a newly loaded Pc leaves at or beyond the new Pc keeps its count until
the next count returns it to 0 (DESIGN CHOICE, log entry 33). -/
def Rumble.advanceCarrier (r : Rumble) (pc : Nat) : Rumble :=
  if r.carrier + 1 < pc then { r with carrier := r.carrier + 1 }
  else ({ r with carrier := 0 } : Rumble).takePending

/-- The stale timer's count (R71): it runs while it is above 0 and the configuration is loaded. -/
def Rumble.countStale (r : Rumble) (td : Nat) (loaded : Bool) : Rumble :=
  if loaded && decide (0 < r.staleTimer) then
    if r.staleTimer = 1 then r.expire td else { r with staleTimer := r.staleTimer - 1 }
  else r

/-- One cartridge clock count: the carrier, the guards, the gates, the stale timer (R57, R58, R71). At a count
where a gate turns on and the stale timer reaches 0, the gate is turned on first and then off, so that its leg's
guard records it with Td (DESIGN CHOICE, log entry 40). -/
def Rumble.clockCount (r : Rumble) (cfg : LoadedConfig) (loaded : Bool) : Rumble :=
  let r := r.advanceCarrier cfg.pc
  let r := { r with legA := r.legA.count, legB := r.legB.count }
  (r.settleGates cfg.td).countStale cfg.td loaded

/-- A number of cartridge clock counts. -/
def Rumble.clockCounts (cfg : LoadedConfig) (loaded : Bool) : Nat → Rumble → Rumble
  | 0, r => r
  | n + 1, r => Rumble.clockCounts cfg loaded n (r.clockCount cfg loaded)

/-! ## Notices (R73) -/

/-- MOTOR_STATE with a reason, as the driver stands (R73). -/
def Rumble.notice (r : Rumble) (reason : MotorReason) : Notice :=
  .motorState reason r.state r.derated r.stale r.enabled r.strength r.cutoffInput

/-- Posts MOTOR_STATE to both masters (R73). -/
def State.postMotor (s : State) (reason : MotorReason) : State := s.postBoth (s.rd.notice reason)

/-- The cartridge clock's counts reach the driver: the console domain runs, and its reset line does not hold
it in its reset state (R161; DEDUCED, log entry 34). -/
def State.clockRuns (s : State) : Bool := s.powered && s.bl.phase != .held

/-- The cartridge clock runs for a number of counts; a stale expiry on the way posts STALE_ON (R71). -/
def State.runClock (s : State) (n : Nat) : State :=
  let r := Rumble.clockCounts s.bl.cfg s.loaded n s.rd
  let s' := { s with rd := r }
  if r.stale && !s.rd.stale then s'.postMotor .staleOn else s'

/-! ## The tick (R59 to R64) -/

/-- The scaled drive (R59, step 1): the magnitude is scaled. -/
def scaledDrive (d : Int) (strength : Nat) : Int :=
  if d < 0 then -((d.natAbs * strength / 4 : Nat) : Int) else ((d.natAbs * strength / 4 : Nat) : Int)

/-- The duty after dead zone and cap (R59, steps 2 to 4). -/
def tickDuty (cfg : LoadedConfig) (cap : Nat) (drive : Int) : Nat :=
  let duty := drive.natAbs * cfg.pc / 32768
  let duty := if duty < cfg.tm then 0 else duty
  min duty cap

/-- The target of a drive and its duty (R59, step 5). -/
def tickTarget (drive : Int) (duty : Nat) : Target :=
  if 0 < drive ∧ 0 < duty then .fwd else if drive < 0 ∧ 0 < duty then .rev else .coast

/-- The motor state of a target. -/
def Target.motor : Target → MotorState
  | .coast => .coast
  | .fwd => .fwd
  | .rev => .rev

/-- The last direction after a target is taken: FWD or REV sets it, COAST leaves it (R60). -/
def Target.direct (t : Target) (d : Direction) : Direction :=
  match t with
  | .coast => d
  | .fwd => .fwd
  | .rev => .rev

/-- The duty a target takes: 0 for COAST (R60). -/
def Target.dutyOf (t : Target) (duty : Nat) : Nat := if t = .coast then 0 else duty

/-- A target is opposite to the last direction (R60). -/
def Target.opposite (t : Target) (d : Direction) : Bool :=
  (t == .fwd && d == .rev) || (t == .rev && d == .fwd)

/-- The driver has set a new motor state and duty: they are reported at once and pend for the gates
(R62). -/
def Rumble.setResult (r : Rumble) (st : MotorState) (duty : Nat) : Rumble :=
  { r with state := st, duty := duty, pending := some (st, duty) }

/-- A target is taken directly (R60). -/
def Rumble.takeTarget (r : Rumble) (t : Target) (duty : Nat) : Rumble :=
  { r with lastDir := t.direct r.lastDir }.setResult t.motor (t.dutyOf duty)

/-- A brake begins (R60): Tb ticks, or 1 if Tb is 0. -/
def Rumble.beginBrake (r : Rumble) (tb : Nat) (t : Target) (duty : Nat) : Rumble :=
  { r with brakeTimer := if tb = 0 then 1 else tb, remembered := t, rememberedDuty := duty }.setResult
    .brake 0

/-- The brake ends (R61): the last direction is cleared and the remembered target is taken. -/
def Rumble.endBrake (r : Rumble) : Rumble :=
  { r with lastDir := Direction.none }.takeTarget r.remembered r.rememberedDuty

/-- A tick in BRAKE (R61). -/
def Rumble.brakeTick (r : Rumble) (t : Target) (duty : Nat) : Rumble :=
  let r := { r with remembered := t, rememberedDuty := t.dutyOf duty, brakeTimer := r.brakeTimer - 1 }
  if r.brakeTimer = 0 then r.endBrake else r.setResult .brake 0

/-- What a tick's target does in each motor state (R60, R61, R64). -/
def Rumble.act (r : Rumble) (tb : Nat) (t : Target) (duty : Nat) : Rumble :=
  match r.state with
  | .brake => r.brakeTick t duty
  | .cutoff => r
  | .disabled => r
  | _ => if t.opposite r.lastDir then r.beginBrake tb t duty else r.takeTarget t duty

/-- The applied duty (R63): the duty in FWD or REV, 0 in every other state. -/
def Rumble.appliedDuty (r : Rumble) : Nat :=
  match r.state with
  | .fwd => r.duty
  | .rev => r.duty
  | _ => 0

/-- The heat estimate after a tick (R63). -/
def heatAfter (heat applied pc : Nat) : Nat := min 262143 (heat + applied * 100 / pc - 30)

/-- Derating starts at 200,000 and ends at 100,000 (R63). -/
def deratedAfter (derated : Bool) (heat : Nat) : Bool :=
  if derated then !decide (heat ≤ 100000) else decide (200000 ≤ heat)

/-- The tick's computation, from the motor mix value to the heat update (R59 to R64). -/
def Rumble.tick (r : Rumble) (cfg : LoadedConfig) (d : Int) : Rumble :=
  let drive := scaledDrive d r.strength
  let duty := tickDuty cfg (capInForce cfg r.derated) drive
  let t := tickTarget drive duty
  let r := { r with drive := drive, target := t }.act cfg.tb t duty
  let heat := heatAfter r.heat r.appliedDuty cfg.pc
  { r with heat := heat, derated := deratedAfter r.derated heat }

/-- The notices and the fault of a change of derated (R63). -/
def State.postDerating (s : State) (before : Bool) : State :=
  if s.rd.derated && !before then
    (s.postMotor .derateOn).postFault .motorDerated .both none
  else if before && !s.rd.derated then s.postMotor .derateOff
  else s

/-- A tick reaches the driver (R59): the stale timer restarts and stale ends first; before the
configuration is loaded that is all. -/
def State.rumbleTick (s : State) : State :=
  let wasStale := s.rd.stale
  let s := { s with rd := { s.rd with staleTimer := staleCounts, stale := false } }
  let s := if wasStale then s.postMotor .staleOff else s
  if s.loaded then
    let before := s.rd.derated
    ({ s with rd := s.rd.tick s.bl.cfg s.mx.motorMix } : State).postDerating before
  else s

/-! ## Cutoff and supply failure (R65 to R67) -/

/-- The cutoff is taken: CUTOFF latched, the notice, then the fault (R65, R67). -/
def State.latchCutoff (s : State) (reason : MotorReason) : State :=
  (({ s with rd := s.rd.force s.bl.cfg.td .cutoff } : State).postMotor reason).postFault
    .motorCutoff .both none

/-- A change of the cutoff input's level while a cutoff is latched (R66). -/
def State.cutoffChanged (s : State) : State := s.postMotor .inputChanged

/-- The cutoff input takes a level. A level it already has is no change; before the configuration is loaded
only the level is kept (R55). -/
def State.cutoffLevel (s : State) (active : Bool) : State :=
  if s.rd.cutoffInput = active then s
  else
    let s := { s with rd := { s.rd with cutoffInput := active } }
    if s.powered && s.loaded then
      if s.rd.latched then s.cutoffChanged
      else if active then s.latchCutoff .cutoffInput else s
    else s

/-- CUTOFF_INPUT_ACTIVE (R65, R66). -/
def execCutoffInputActive (s : State) : Host.Outcome State Fault Refusal :=
  .next (s.cutoffLevel true)

/-- CUTOFF_INPUT_INACTIVE (R66). -/
def execCutoffInputInactive (s : State) : Host.Outcome State Fault Refusal :=
  .next (s.cutoffLevel false)

/-! ## The bridge's timed events: each lets the cartridge clock run up to it (log entry 4) -/

/-- CARRIER_PERIOD_START (R57, R62): the clock runs to the carrier counter's next return to 0. -/
def execCarrierPeriodStart (s : State) : Host.Outcome State Fault Refusal :=
  if s.clockRuns then .next (s.runClock (max 1 (s.bl.cfg.pc - s.rd.carrier))) else .next s

/-- The counts to the end of the pulse now on (R57): none when no pulse is under way or it lasts the whole
period. -/
def Rumble.countsToPulseEnd (r : Rumble) (pc : Nat) : Nat :=
  if (r.driven = .fwd ∨ r.driven = .rev) ∧ r.carrier < r.drivenDuty ∧ r.drivenDuty < pc then
    r.drivenDuty - r.carrier
  else 0

/-- PWM_PULSE_END (R57): the clock runs until the carrier counter reaches the duty. -/
def execPwmPulseEnd (s : State) : Host.Outcome State Fault Refusal :=
  if s.clockRuns then .next (s.runClock (s.rd.countsToPulseEnd s.bl.cfg.pc)) else .next s

/-- A leg of the bridge. -/
def Rumble.leg (r : Rumble) : Leg → LegState
  | .a => r.legA
  | .b => r.legB

/-- DEAD_TIME_EXPIRY (R58): the clock runs until the leg's guard count reaches 0. -/
def execDeadTimeExpiry (leg : Leg) (s : State) : Host.Outcome State Fault Refusal :=
  if s.clockRuns then .next (s.runClock (s.rd.leg leg).guard.count) else .next s

/-- STALE_TIMER_EXPIRY (R71): the clock runs until the stale timer, where it runs, reaches 0. -/
def execStaleTimerExpiry (s : State) : Host.Outcome State Fault Refusal :=
  if s.clockRuns && s.loaded then .next (s.runClock s.rd.staleTimer) else .next s

/-- BRAKE_END (R61): in BRAKE with the timer at 0 the brake ends. The tick that lowers the timer to 0 ends
the brake itself, so the command finds nothing due after it (log entry 18). -/
def execBrakeEnd (s : State) : Host.Outcome State Fault Refusal :=
  if s.powered && s.loaded && s.rd.state == .brake && s.rd.brakeTimer == 0 then
    .next { s with rd := s.rd.endBrake }
  else .next s

/-! ## The rumble requests (R68 to R72) -/

/-- The state a released latch gives (R68). -/
def Rumble.resumed (r : Rumble) : Rumble :=
  let st : MotorState := if r.disabledCondition then .disabled else .coast
  { r with state := st, duty := 0, driven := st, drivenDuty := 0 }

/-- RUMBLE_RESUME (R68). Its own notice is placed before its reply, here and in the two requests that follow
(DESIGN CHOICE, log entry 35). -/
def jobRumbleResume (a : Ask) (s : State) : State :=
  if a.m = .game then s.refuse a .denied
  else if !s.rd.latched then s.answer a .ok (u8 s.rd.state.code)
  else if s.rd.cutoffInput then s.refuse a .cutoffActive
  else
    let s := ({ s with rd := s.rd.resumed } : State).postMotor .resumed
    s.answer a .ok (u8 s.rd.state.code)

/-- The driver acts on a change of the DISABLED condition (R69): it begins or ceases to hold; a latched
cutoff keeps its state. -/
def Rumble.conditionChanged (r : Rumble) (td : Nat) (before : Bool) : Rumble :=
  if r.latched then r
  else if r.disabledCondition && !before then r.force td .disabled
  else if before && !r.disabledCondition then
    { r with state := .coast, duty := 0, pending := none, driven := .coast, drivenDuty := 0 }
  else r

/-- RUMBLE_ENABLE (R69). -/
def jobRumbleEnable (a : Ask) (on : Bool) (s : State) : State :=
  if a.m = .game then s.refuse a .denied
  else
    let changed := s.rd.enabled != on
    let r := ({ s.rd with enabled := on } : Rumble).conditionChanged s.bl.cfg.td
      s.rd.disabledCondition
    let s := { s with rd := r }
    let s := if changed then s.postMotor .enableChanged else s
    s.answer a .ok (flag s.rd.enabled ++ u8 s.rd.strength ++ u8 s.rd.state.code)

/-- RUMBLE_STRENGTH (R70). -/
def jobRumbleStrength (a : Ask) (strength : Word) (s : State) : State :=
  if a.m = .game then s.refuse a .denied
  else
    let r := { s.rd with strength := min 4 strength.toNat }
    let changed := r.disabledCondition != s.rd.disabledCondition
    let r := r.conditionChanged s.bl.cfg.td s.rd.disabledCondition
    let s := { s with rd := r }
    let s := if changed then s.postMotor .enableChanged else s
    s.answer a .ok (u8 s.rd.strength ++ u8 s.rd.state.code)

/-- The fields of RUMBLE_STATUS (R72). The remembered target is one optional field of three bytes, the target
and the duty it takes with it (DEDUCED, log entry 13). -/
def Rumble.statusFields (r : Rumble) (cfg : LoadedConfig) : List Byte :=
  let braking := r.state == .brake
  u8 r.state.code ++ u16 r.duty ++ i16 r.drive ++ u8 r.target.code ++ u8 r.lastDir.code
    ++ optional 1 (if braking then some (u8 r.brakeTimer) else none)
    ++ optional 3 (if braking then some (u8 r.remembered.code ++ u16 r.rememberedDuty) else none)
    ++ u32 r.heat ++ flag r.derated ++ u16 (capInForce cfg r.derated) ++ flag r.stale
    ++ flag r.enabled ++ u8 r.strength ++ u8 (cutoffInputCode r.cutoffInput) ++ flag r.latched

/-- RUMBLE_STATUS (R72). -/
def jobRumbleStatus (a : Ask) (s : State) : State := s.answer a .ok (s.rd.statusFields s.bl.cfg)

/-- The driver takes the loaded values (R55, R159): S, DISABLED at strength 0 without a notice, the stale
timer; an active cutoff input is then taken as going active. -/
def State.rumbleLoad (s : State) : State :=
  let r := { s.rd with strength := s.bl.cfg.strength, staleTimer := staleCounts }
  let r := if r.disabledCondition then r.force s.bl.cfg.td .disabled else r
  let s := { s with rd := r }
  if r.cutoffInput then s.latchCutoff .cutoffInput else s

end Sys2Proof.Machine
end

