-- ==== Sys2Proof/Machine/Fetch.lean ====
section
/-! DEFINITION. The fetch channels (R39 to R46) and the private memory arbiter (R47 to R51): claims, grant
decisions, and the completion of a fetch burst. -/

namespace Sys2Proof.Machine

/-! ## Channels -/

/-- The channel of a voice that became FREE (R46): IDLE, emptied, the discard mark set for a burst in
flight. -/
def Channel.stop (c : Channel) : Channel :=
  { c with state := .idle, fifo := [], skip := 0, discard := c.inFlight }

/-- Bytes per sample (R39). -/
def SampleFormat.bytes : SampleFormat → Nat
  | .pcm8 => 1
  | .pcm16 => 2

/-- The channel set up for a new use of its voice (R40): a burst still in flight keeps its mark. -/
def Channel.setUp (c : Channel) (v : Voice) : Channel :=
  { c with
    state := .priming
    bps := v.format.bytes
    next := v.source
    toEnd := v.len * v.format.bytes
    loopAddr := v.loop.map fun ls => v.source + ls * v.format.bytes
    fifo := []
    skip := 0 }

/-- The bytes of one loop pass (R41). -/
def Voice.loopBytes (v : Voice) : Nat := (v.len - v.loop.getD 0) * v.format.bytes

/-- The bytes a burst granted to a channel reads (R41). -/
def Channel.burstLength (c : Channel) : Nat := min burstBytes c.toEnd

/-- The channel when a burst is granted to it (R41): it advances, and wraps to the loop start at the sample end.
A one-shot sample that ends on byte 16,777,215 leaves the next address at 16,777,216, one above the range R39 gives
it; it does not wrap, and no byte is fetched from it (DESIGN CHOICE, log entry 43). -/
def Channel.granted (c : Channel) (loopBytes : Nat) : Channel :=
  let len := c.burstLength
  if c.toEnd - len = 0 then
    match c.loopAddr with
    | some a => { c with next := a, toEnd := loopBytes, inFlight := true }
    | none => { c with next := c.next + len, toEnd := 0, inFlight := true }
  else { c with next := c.next + len, toEnd := c.toEnd - len, inFlight := true }

/-- No byte is left to fetch: a one-shot sample's last byte has been granted (R41). -/
def Channel.exhausted (c : Channel) : Bool := c.toEnd == 0 && c.loopAddr.isNone

/-- A burst's bytes enter the FIFO, less those the mixer has already passed over (R42). -/
def Channel.receive (c : Channel) (bytes : List Byte) : Channel :=
  { c with fifo := c.fifo ++ bytes.drop c.skip, skip := c.skip - bytes.length, inFlight := false }

/-- The priming report is due at this completion (R44). -/
def Channel.primed (c : Channel) : Bool :=
  c.state == .priming && (decide (64 ≤ c.fill) || c.exhausted)

/-- The state of a channel after bytes have entered (R42, R44). -/
def Channel.settle (c : Channel) : Channel :=
  if c.primed then { c with state := if c.exhausted then .drained else .streaming }
  else if c.state = .streaming && c.exhausted then { c with state := .drained }
  else c

/-- The mixer removes bytes from the head; what the FIFO lacks is added to the skip count (R43). -/
def Channel.consume (c : Channel) (n : Nat) : Channel :=
  { c with fifo := c.fifo.drop n, skip := c.skip + (n - c.fifo.length) }

/-- A KEYED voice whose priming is complete becomes PLAYING and its envelope starts (R11). -/
def Voice.startPlaying (v : Voice) : Voice :=
  if v.state = .keyed then
    if v.attack = 0 then { v with state := .playing, phase := some .decay, level := peakLevel }
    else { v with state := .playing, phase := some .attack }
  else v

/-! ## Claims and grants -/

/-- The boot loader has a read to make (R47, R51). -/
def Boot.claims (b : Boot) : Bool := b.phase == .loading && decide (b.granted < 2)

/-- Of the voices listed, the one whose channel has the lowest fill, the earlier at equal fill (R48). -/
def State.lowestFill (s : State) : List (Fin 16) → Option (Fin 16)
  | [] => none
  | v :: rest =>
    match s.lowestFill rest with
    | none => some v
    | some w => if s.channels[v].fill ≤ s.channels[w].fill then some v else some w

/-- Whom a grant decision chooses. -/
inductive Claimant where
  | boot
  | store
  | fetch (v : Fin 16)
  deriving DecidableEq, Repr

/-- The starvation guard sends the grant to the store engine (R49). -/
def State.guardActs (s : State) : Bool := s.pma.runCount == guardRun && !s.ss.ops.isEmpty

/-- The grant decision: the guard of R49, then the ranks of R48. -/
def State.grantChoice (s : State) : Option Claimant :=
  if s.guardActs then some .store
  else if s.bl.claims then some .boot
  else
    match s.lowestFill (voiceNumbers.filter fun v => s.channels[v].urgent) with
    | some v => some (.fetch v)
    | none =>
      if !s.ss.ops.isEmpty then some .store
      else (s.lowestFill (voiceNumbers.filter fun v => s.channels[v].ready)).map .fetch

/-- The fetch run count after a grant to a fetch channel (R49). -/
def State.fetchRun (s : State) : Nat :=
  if s.ss.ops.isEmpty then 0 else min guardRun (s.pma.runCount + 1)

/-- Grants a burst to a fetch channel (R41, R49). -/
def State.grantFetch (s : State) (v : Fin 16) : State :=
  let c := s.channels[v]
  let s := { s with pma := { inFlight := some (.fetch v c.next c.burstLength), runCount := s.fetchRun } }
  s.setChannel v (c.granted s.voices[v].loopBytes)

/-- Grants a burst to the store engine: the oldest operation leaves the queue (R48, R49). -/
def State.grantStore (s : State) : State :=
  match s.ss.ops with
  | [] => s
  | op :: rest =>
    { s with pma := { inFlight := some (.store op false), runCount := 0 }
             ss := { s.ss with ops := rest } }

/-- Grants a burst to the boot loader (R51); the run count is unchanged (R49). -/
def State.grantBoot (s : State) : State :=
  { s with pma := { s.pma with inFlight := some (.boot s.bl.granted false) }
           bl := { s.bl with granted := s.bl.granted + 1 } }

/-- A grant decision, made when no burst is in flight (R47): the first claimant found is granted, and
without a claim the bus stays free. -/
def State.arbitrate (s : State) : State :=
  if s.powered && s.pma.inFlight.isNone then
    match s.grantChoice with
    | none => s
    | some .boot => s.grantBoot
    | some .store => s.grantStore
    | some (.fetch v) => s.grantFetch v
  else s

/-- The burst in flight has completed (R47): the bus is free. -/
def State.busFree (s : State) : State := { s with pma := { s.pma with inFlight := none } }

/-- Places store operations at the tail of the store engine's queue. -/
def State.pushOps (s : State) (ops : List StoreOp) : State :=
  { s with ss := { s.ss with ops := s.ss.ops ++ ops } }

/-- Withdraws the waiting operations that a test picks. -/
def Store.withdraw (ss : Store) (pick : StoreOp → Bool) : Store :=
  { ss with ops := ss.ops.filter fun op => !pick op }

/-- Marks the burst in flight, when a test picks it, as belonging to work that has ended. -/
def Arbiter.orphan (p : Arbiter) (pick : StoreOp → Bool) : Arbiter :=
  match p.inFlight with
  | some (.store op d) => { p with inFlight := some (.store op (d || pick op)) }
  | _ => p

/-! ## Completion of a fetch burst -/

/-- The effect of a fetch burst's bytes on its channel and voice (R42, R44, R46). -/
def State.deliverFetch (s : State) (v : Fin 16) (bytes : List Byte) : State :=
  let c := s.channels[v]
  if c.discard then s.setChannel v { c with discard := false, inFlight := false }
  else
    let c := c.receive bytes
    let s := s.setChannel v c.settle
    if c.primed then s.setVoice v s.voices[v].startPlaying else s

/-- FETCH_BURST_COMPLETE (R42): without a fetch burst in flight nothing completes. -/
def execFetchBurstComplete (s : State) : Host.Outcome State Fault Refusal :=
  if s.powered then
    match s.pma.inFlight with
    | some (.fetch v addr len) =>
      if addr + len ≤ romSize then
        .next ((s.busFree.deliverFetch v (s.rom.readBytes romBlank addr len)).arbitrate)
      else .fault .romAddress
    | _ => .next s
  else .next s

end Sys2Proof.Machine
end

