-- ==== Sys2Proof/Machine/Voice.lean ====
section
/-! DEFINITION. The voice pool (chapter 1): ending and allocating voices, stealing, the envelope, and the
five voice requests as the job carries them out. -/

namespace Sys2Proof.Machine

/-! ## Ending a voice (R18) -/

/-- The record of a voice made FREE for a reason (R18). -/
def Voice.ended (v : Voice) (r : EndReason) : Voice :=
  { v with state := .free, phase := none, endReason := some r, pendingStep := none,
           pendingVolume := none, pendingPan := none, level := 0, starve := 0 }

/-- Whether VOICE_ENDED is posted for a reason (R18's table). -/
def EndReason.posts : EndReason → Bool → Bool
  | .endOfSample, notify => notify
  | .released, notify => notify
  | .stopped, notify => notify
  | .stolen, _ => true
  | .starved, _ => true
  | .reset, _ => false

/-- The pool and the channel after an end, before its notice (R18, R46). -/
def State.freeVoice (s : State) (v : Fin 16) (r : EndReason) : State :=
  let s := s.setVoice v (s.voices[v].ended r)
  { s.setChannel v s.channels[v].stop with age := s.age.filter (· != v) }

/-- A voice ends (R18): it becomes FREE, then the notice, if any, goes to its owner with the handle the
voice had. -/
def State.endVoice (s : State) (v : Fin 16) (r : EndReason) : State :=
  let old := s.voices[v]
  let s' := s.freeVoice v r
  if r.posts old.notify then s'.post old.owner (.voiceEnded (mkHandle v old.gen) r) else s'

/-! ## VOICE_START (R5 to R10, R52) -/

/-- The least and the highest pitch step (R1). -/
def minStep : Nat := 0x100
def maxStep : Nat := 0x40000

/-- A pitch step brought into its range (R5, R16). -/
def clampStep (q : Quad) : Nat := clamp minStep maxStep q.toNat

/-- A rate above 32767 is lowered to it (R5). -/
def clampRate (w : Word) : Nat := min peakLevel w.toNat

/-- The destination a parameter byte names (R174). -/
def destOf (b : Byte) : Option Destination :=
  if b = 0 then some .speaker else if b = 1 then some .motor else none

/-- The format a parameter byte names (R174). -/
def formatOf (b : Byte) : Option SampleFormat :=
  if b = 0 then some .pcm8 else if b = 1 then some .pcm16 else none

/-- A loop start is absent or at most L - 2 (R5). -/
def loopInRange (len : Nat) : Option Quad → Bool
  | none => true
  | some l => decide (l.toNat + 2 ≤ len)

/-- The parameters of VOICE_START are in range (R5, R52): the named values, the length, the loop start, the
alignment, volume, pan, sustain level, priority, and the sample's bytes within the ROM. -/
def startInRange (p : VoiceStart) (romBytes : Nat) : Bool :=
  match destOf p.dest, formatOf p.format with
  | some _, some fmt =>
    decide (2 ≤ p.length.toNat) && decide (p.length.toNat ≤ 16777215)
      && loopInRange p.length.toNat p.loop
      && (fmt == .pcm8 || p.source.toNat % 2 == 0)
      && decide (p.volume.toNat ≤ 127) && decide (p.pan.toNat ≤ 127)
      && decide (p.sustain.toNat ≤ peakLevel) && decide (p.priority.toNat ≤ 7)
      && decide (p.source.toNat + p.length.toNat * fmt.bytes ≤ romBytes)
  | _, _ => false

/-- The record a voice takes when it is allocated (R10, R3), with the clamping of R5. -/
def Voice.allocated (old : Voice) (m : Master) (p : VoiceStart) : Voice :=
  { state := .keyed, phase := none, gen := old.gen + 1, owner := m,
    dest := (destOf p.dest).getD .speaker, format := (formatOf p.format).getD .pcm8,
    source := p.source.toNat, len := p.length.toNat, loop := p.loop.map (·.toNat), n := 0, f := 0,
    step := clampStep p.step, volume := p.volume.toNat, pan := p.pan.toNat,
    attack := clampRate p.attack, decay := clampRate p.decay, sustain := p.sustain.toNat,
    release := max 1 (clampRate p.release), level := 0, priority := p.priority.toNat,
    notify := p.notify, pendingStep := none, pendingVolume := none, pendingPan := none, starve := 0,
    last := Contribution.zero, endReason := none }

/-- A voice's underrun mark takes a value (R29, R35). -/
def Mixer.setMark (mx : Mixer) (v : Fin 16) (on : Bool) : Mixer := { mx with marks := putAt mx.marks v on }

/-- Allocates a voice: the record, its place at the end of the age list, its channel (R2, R10, R40). A mark
that an ended use of the number left before the tick is cleared, so that a KEYED voice has none (R35, R53;
DEDUCED, log entry 32). -/
def State.allocate (s : State) (m : Master) (p : VoiceStart) (v : Fin 16) : State :=
  let x := s.voices[v].allocated m p
  let s := s.setVoice v x
  { s.setChannel v (s.channels[v].setUp x) with age := s.age ++ [v], mx := s.mx.setMark v false }

/-- The lowest-numbered FREE voice (R6). -/
def State.firstFree (s : State) : Option (Fin 16) :=
  voiceNumbers.find? fun v => !s.voices[v].inUse

/-- Whether a voice is a candidate for stealing by a requester at a priority (R7). -/
def State.candidate (s : State) (m : Master) (priority : Nat) (v : Fin 16) : Bool :=
  let x := s.voices[v]
  match m with
  | .game => x.owner == .game && decide (x.priority < priority)
  | .system =>
    if s.ownedCount .system < s.bl.cfg.guarantee then x.owner == .game
    else decide (x.priority < priority)

/-- The first two tests of R8: RELEASING candidates if there are any, then the lowest priority. -/
def State.narrowed (s : State) (cands : List (Fin 16)) : List (Fin 16) :=
  let rel := cands.filter fun v => s.voices[v].state == .releasing
  let kept := if rel.isEmpty then cands else rel
  kept.filter fun v => kept.all fun w => decide (s.voices[v].priority ≤ s.voices[w].priority)

/-- The victim: of the narrowed candidates, the one nearest the front of the age list (R8). -/
def State.victim (s : State) (m : Master) (priority : Nat) : Option (Fin 16) :=
  let kept := s.narrowed (voiceNumbers.filter fun v => s.voices[v].inUse && s.candidate m priority v)
  s.age.find? fun v => kept.contains v

/-- VOICE_START as the voice pool carries it out (R5, R6, R9, R10). -/
def jobVoiceStart (a : Ask) (p : VoiceStart) (s : State) : State :=
  if startInRange p s.bl.cfg.romBytes then
    match s.firstFree with
    | some v =>
      let s := s.allocate a.m p v
      (s.answer a .ok [s.handle v]).arbitrate
    | none =>
      match s.victim a.m p.priority.toNat with
      | some v =>
        let s := (s.endVoice v .stolen).allocate a.m p v
        (s.answer a .ok [s.handle v]).arbitrate
      | none => s.refuse a .noVoice
  else s.refuse a .range

/-! ## The requests that name a voice by its handle (R4, R13, R15, R16, R19) -/

/-- The checks of R4, in their order: STALE, then DENIED, then what the request's own rule states. -/
def withHandle (a : Ask) (h : Byte) (s : State) (act : Fin 16 → State) : State :=
  let v := handleVoice h
  let x := s.voices[v]
  if x.gen ≠ handleGen h ∨ x.state = .free then s.refuse a .stale
  else if x.owner ≠ a.m then s.refuse a .denied
  else act v

/-- A volume or pan that VOICE_SET may stage (R16). -/
def stageable : Option Byte → Bool
  | none => true
  | some b => decide (b.toNat ≤ 127)

/-- The record with the fields of VOICE_SET staged (R16). -/
def Voice.staged (x : Voice) (p : VoiceSet) : Voice :=
  { x with pendingStep := (p.step.map clampStep).or x.pendingStep
           pendingVolume := (p.volume.map (·.toNat)).or x.pendingVolume
           pendingPan := (p.pan.map (·.toNat)).or x.pendingPan }

/-- VOICE_SET (R16). -/
def jobVoiceSet (a : Ask) (p : VoiceSet) (s : State) : State :=
  withHandle a p.handle s fun v =>
    if stageable p.volume && stageable p.pan then
      (s.setVoice v (s.voices[v].staged p)).answer a .ok []
    else s.refuse a .range

/-- VOICE_RELEASE (R13). -/
def jobVoiceRelease (a : Ask) (h : Byte) (s : State) : State :=
  withHandle a h s fun v =>
    match s.voices[v].state with
    | .playing =>
      (s.setVoice v { s.voices[v] with state := .releasing, phase := none }).answer a .ok []
    | .keyed => (s.endVoice v .released).answer a .ok []
    | _ => s.answer a .ok []

/-- VOICE_STOP (R15). -/
def jobVoiceStop (a : Ask) (h : Byte) (s : State) : State :=
  withHandle a h s fun v => (s.endVoice v .stopped).answer a .ok []

/-- The fields of a voice in use, in the reply of VOICE_QUERY (R19, R174). -/
def Voice.queryInUse (x : Voice) : List Byte :=
  u8 x.state.code ++ optional 1 none ++ optional 1 (x.phase.map fun p => u8 p.code)
    ++ optional 1 (some (u8 (masterCode x.owner))) ++ optional 1 (some (u8 x.dest.code))
    ++ optional 1 (some (u8 x.priority)) ++ optional 2 (some (u16 x.level))
    ++ optional 4 (some (u32 x.n)) ++ optional 4 (some (u32 x.step))
    ++ optional 1 (some (u8 x.volume)) ++ optional 1 (some (u8 x.pan))
    ++ optional 4 (x.pendingStep.map u32) ++ optional 1 (x.pendingVolume.map u8)
    ++ optional 1 (x.pendingPan.map u8) ++ optional 1 (some (u8 x.starve))
    ++ optional 1 (some (flag x.notify))

/-- The fields of a FREE voice, in the same layout (R19, R174). -/
def Voice.queryFree (x : Voice) : List Byte :=
  u8 x.state.code ++ optional 1 (x.endReason.map fun r => u8 r.code)
    ++ optional 1 none ++ optional 1 none ++ optional 1 none ++ optional 1 none ++ optional 2 none
    ++ optional 4 none ++ optional 4 none ++ optional 1 none ++ optional 1 none ++ optional 4 none
    ++ optional 1 none ++ optional 1 none ++ optional 1 none ++ optional 1 none

/-- VOICE_QUERY (R19). -/
def jobVoiceQuery (a : Ask) (h : Byte) (s : State) : State :=
  let x := s.voices[handleVoice h]
  if x.gen ≠ handleGen h then s.refuse a .stale
  else s.answer a .ok (if x.inUse then x.queryInUse else x.queryFree)

/-! ## The mixer tick's work on the voices (R12, R14, R17) -/

/-- The pending parameters replace the current ones (R17). -/
def Voice.applyPending (x : Voice) : Voice :=
  { x with step := x.pendingStep.getD x.step, volume := x.pendingVolume.getD x.volume,
           pan := x.pendingPan.getD x.pan, pendingStep := none, pendingVolume := none,
           pendingPan := none }

/-- The envelope of a PLAYING voice advances by its phase (R12). -/
def Voice.envelope (x : Voice) : Voice :=
  match x.phase with
  | some .attack =>
    let e := min peakLevel (x.level + x.attack)
    { x with level := e, phase := if e = peakLevel then some .decay else some .attack }
  | some .decay =>
    let e := max (x.level - x.decay) x.sustain
    { x with level := e, phase := if e = x.sustain then some .sustain else some .decay }
  | _ => x

end Sys2Proof.Machine
end

