-- ==== Sys2Proof/Machine/Mixer.lean ====
section
/-! DEFINITION. The mixer (chapter 2): the contribution of one voice, the frame, the tick, the end of a
starved voice (R54), and the two mix requests. -/

namespace Sys2Proof.Machine

/-! ## The contribution of one voice (R24 to R28) -/

/-- The sample at the head of a FIFO and what follows it; none when its bytes are not all there (R24). -/
def headSample : SampleFormat → List Byte → Option (Int × List Byte)
  | .pcm8, b :: rest => some (b.toInt * 256, rest)
  | .pcm16, lo :: hi :: rest => some ((hi ++ lo).toInt, rest)
  | _, _ => none

/-- The samples s0 and s1 that a frame needs (R24); none when the voice underruns. -/
def Voice.samples (x : Voice) (fifo : List Byte) : Option (Int × Int) :=
  match headSample x.format fifo with
  | none => none
  | some (s0, rest) =>
    if x.n + 1 < x.len ∨ x.loop.isSome then
      (headSample x.format rest).map fun r => (s0, r.1)
    else some (s0, s0)

/-- The interpolated sample (R25). -/
def interpolate (s0 s1 : Int) (f : Nat) : Int := s0 + (s1 - s0) * f / 65536

/-- The enveloped sample (R26). -/
def enveloped (s : Int) (level : Nat) : Int := s * level / 32768

/-- What a voice contributes from an enveloped sample (R27, R28). -/
def Voice.contribute (x : Voice) (e : Int) : Contribution :=
  match x.dest with
  | .speaker =>
    { left := e * x.volume * (127 - (x.pan : Int)) / 16384
      right := e * x.volume * x.pan / 16384
      motor := 0 }
  | .motor => { left := 0, right := 0, motor := e * x.volume / 128 }

/-- The contribution a voice computes afresh from its two samples (R25 to R28). -/
def Voice.fresh (x : Voice) (s0 s1 : Int) : Contribution :=
  x.contribute (enveloped (interpolate s0 s1 x.f) x.level)

/-- A contribution is added to the accumulators of its owner, and to AM whatever the owner (R27, R28). -/
def Mixer.add (mx : Mixer) (owner : Master) (c : Contribution) : Mixer :=
  match owner with
  | .game => { mx with alg := mx.alg + c.left, arg := mx.arg + c.right, am := mx.am + c.motor }
  | .system => { mx with als := mx.als + c.left, ars := mx.ars + c.right, am := mx.am + c.motor }

/-- The position after an advance, before any wrap, in units of 1/65536 sample (R30). -/
def Voice.advanced (x : Voice) : Nat := x.n * 65536 + x.f + x.step

/-- The whole samples an advance passes (R30). -/
def Voice.passed (x : Voice) : Nat := x.advanced / 65536 - x.n

/-- A position past the end of a loop, brought back by whole loop lengths (R30). -/
def wrapLoop (ls len n : Nat) : Nat := if n < len then n else ls + (n - ls) % (len - ls)

/-- The position advance of a voice that has not underrun (R30, R31). R1 keeps n within 0 to L - 1, R30 brings it to
L or more where the voice ends, and R18 lists no change of n at an end: the FREE record keeps the n and f of this last
advance, which no command reports (DESIGN CHOICE, log entry 46). -/
def State.advanceVoice (s : State) (v : Fin 16) : State :=
  let x := s.voices[v]
  let n := x.advanced / 65536
  let s := s.setChannel v (s.channels[v].consume (x.passed * x.format.bytes))
  let f := x.advanced % 65536
  match x.loop with
  | some ls => s.setVoice v { x with n := wrapLoop ls x.len n, f := f }
  | none =>
    let s := s.setVoice v { x with n := n, f := f }
    if x.len ≤ n then s.endVoice v .endOfSample else s

/-- One voice's part in a frame (R23 to R31). -/
def State.frameVoice (s : State) (v : Fin 16) : State :=
  let x := s.voices[v]
  if x.sounds then
    match x.samples s.channels[v].fifo with
    | none => { s with mx := (s.mx.add x.owner x.last).setMark v true }
    | some (s0, s1) =>
      let c := x.fresh s0 s1
      let s := { s with mx := s.mx.add x.owner c }
      (s.setVoice v { x with last := c }).advanceVoice v
  else s

/-! ## Forming the output (R32 to R36) -/

/-- The accumulators cleared at the start of a frame (R22). -/
def Mixer.clear (mx : Mixer) : Mixer := { mx with alg := 0, arg := 0, als := 0, ars := 0, am := 0 }

/-- The effective game level Mg' (R32). -/
def Mixer.effectiveGame (mx : Mixer) (duck : Bool) : Nat := if duck then mx.mg * mx.dk / 256 else mx.mg

/-- One output channel before saturation (R33). -/
def Mixer.channelOut (mx : Mixer) (duck : Bool) (game system : Int) : Int :=
  game * mx.effectiveGame duck / 128 + system * mx.ms / 128

/-- The output is formed, the clip count and the frame motor value updated, the frame counted (R22, R33,
R34); the line now carries the frame computed before (R36). -/
def Mixer.form (mx : Mixer) (duck : Bool) : Mixer :=
  let l := mx.channelOut duck mx.alg mx.als
  let r := mx.channelOut duck mx.arg mx.ars
  let clipped := saturate16 l != l || saturate16 r != r
  { mx with
    outL := mx.nextL, outR := mx.nextR, nextL := saturate16 l, nextR := saturate16 r
    clip := if clipped then min maxCount (mx.clip + 1) else mx.clip
    frameMotor := saturate16 mx.am, frames := mx.frames + 1, duckLast := duck }

/-- One frame, taken whole (R22). -/
def State.computeFrame (s : State) : State :=
  let duck := s.duckInForce
  let s := voiceNumbers.foldl State.frameVoice { s with mx := s.mx.clear }
  { s with mx := s.mx.form duck }

/-- The audio line at 0 (R36, R161): all 32 bits of `State.audioLine`. -/
def Mixer.silence (mx : Mixer) : Mixer := { mx with outL := 0, outR := 0, nextL := 0, nextR := 0 }

/-! ## The tick (R35) -/

/-- Step 1: the pending parameters of each voice in use are applied (R17). -/
def State.applyStaged (s : State) : State :=
  { s with voices := s.voices.map fun x => if x.inUse then x.applyPending else x }

/-- Step 2 for one voice: the envelope of a PLAYING voice advances (R12); E of a RELEASING voice falls and
at 0 the voice ends (R14). -/
def State.envelopeVoice (s : State) (v : Fin 16) : State :=
  let x := s.voices[v]
  match x.state with
  | .playing => s.setVoice v x.envelope
  | .releasing =>
    let s := s.setVoice v { x with level := x.level - x.release }
    if x.level - x.release = 0 then s.endVoice v .released else s
  | _ => s

/-- A starved voice ends, and its fault follows (R54). -/
def State.starveOut (s : State) (v : Fin 16) : State :=
  (s.endVoice v .starved).postFault .voiceStarved (concernOf s.voices[v].owner) (some v.val)

/-- Step 3 for one voice still in use: the starve count from the underrun mark (R53), and the end of a
voice whose count reaches 3 (R54). -/
def State.starveVoice (s : State) (v : Fin 16) : State :=
  let x := s.voices[v]
  if x.inUse then
    let count := if s.mx.marks[v] then x.starve + 1 else 0
    let s := s.setVoice v { x with starve := count }
    if 3 ≤ count then s.starveOut v else s
  else s

/-- Step 4: the motor mix value is handed over (R35), with the marks cleared and the counter returned. -/
def Mixer.handOver (mx : Mixer) : Mixer :=
  { mx with marks := Vector.replicate 16 false, motorMix := mx.frameMotor, frames := 0 }

/-- The mixer tick (R35). -/
def State.mixerTick (s : State) : State :=
  let s := voiceNumbers.foldl State.envelopeVoice s.applyStaged
  let s := voiceNumbers.foldl State.starveVoice s
  ({ s with mx := s.mx.handOver } : State).rumbleTick

/-- The tick is due (R22): the frame counter has reached 32. -/
def State.tickDue (s : State) : Bool := decide (tickFrames ≤ s.mx.frames)

/-- AUDIO_FRAME (R22): a tick still due is taken first, so that none is passed over (log entry 18). In HELD
no frame is computed and the line carries 0 (R161). -/
def execAudioFrame (s : State) : Host.Outcome State Fault Refusal :=
  if s.powered then
    if s.bl.phase = .held then .next { s with mx := s.mx.silence }
    else
      let s := if s.tickDue then s.mixerTick else s
      .next s.computeFrame.arbitrate
  else .next s

/-- MIXER_TICK (R35): taken when the frame counter has reached 32. -/
def execMixerTick (s : State) : Host.Outcome State Fault Refusal :=
  if s.powered && s.tickDue then .next s.mixerTick else .next s

/-- VOICE_STARVE (R54): a voice in use whose starve count has reached 3. MIXER_TICK takes this end itself
(R35, step 3); the command finds nothing due after it (log entry 18). -/
def execVoiceStarve (v : Nat) (s : State) : Host.Outcome State Fault Refusal :=
  if h : v < 16 then
    let i : Fin 16 := ⟨v, h⟩
    if s.powered && s.voices[i].inUse && decide (3 ≤ s.voices[i].starve) then .next (s.starveOut i)
    else .next s
  else .next s

/-! ## Mix requests (R37, R38) -/

/-- A master's own mix level is set (R37). -/
def Mixer.setLevel (mx : Mixer) (m : Master) (l : Option Word) : Mixer :=
  match l with
  | none => mx
  | some w => match m with
    | .game => { mx with mg := w.toNat }
    | .system => { mx with ms := w.toNat }

/-- The effect of a MIX_LEVEL that is not refused (R37). -/
def Mixer.mixLevel (mx : Mixer) (m : Master) (level : Option Word) (clear : Bool) : Mixer :=
  ({ mx with clip := if clear then 0 else mx.clip } : Mixer).setLevel m level

/-- A level of MIX_LEVEL is in range (R37). -/
def levelInRange : Option Word → Bool
  | none => true
  | some w => decide (w.toNat ≤ 255)

/-- The fields of MIX_LEVEL's reply: the clip count as it stood, the settings after the request (R37). -/
def Mixer.levelFields (mx : Mixer) (clipBefore : Nat) : List Byte :=
  u16 clipBefore ++ u8 mx.mg ++ u8 mx.ms ++ u16 mx.dk ++ flag mx.duckLast

/-- MIX_LEVEL (R37). -/
def jobMixLevel (a : Ask) (level : Option Word) (clear : Bool) (s : State) : State :=
  if levelInRange level then
    let mx := s.mx.mixLevel a.m level clear
    ({ s with mx := mx } : State).answer a .ok (mx.levelFields s.mx.clip)
  else s.refuse a .range

/-- DUCK_SET (R38). -/
def jobDuckSet (a : Ask) (factor : Word) (s : State) : State :=
  if a.m = .game then s.refuse a .denied
  else
    let dk := min 256 factor.toNat
    ({ s with mx := { s.mx with dk := dk } } : State).answer a .ok (u16 dk)

end Sys2Proof.Machine
end

