-- ==== Sys2Proof/Machine/Clock.lean ====
section
/-! DEFINITION. The game clock (chapter 5): the counting half with its trimmed seconds, the battery checks
that the clock's minute boundaries bring (R153), the day evaluation, the calendar, the rate check, and the
five clock requests. -/

namespace Sys2Proof.Machine

/-! ## The counting half (R75, R76) -/

/-- The crystal ticks to the end of the current second (R75). -/
def BatteryDomain.ticksLeft (b : BatteryDomain) : Nat := b.hold + (secondTicks - b.prescaler)

/-- Crystal ticks that do not reach the end of the second (R75): the hold count falls first, then the
prescaler rises. -/
def BatteryDomain.count (b : BatteryDomain) (n : Nat) : BatteryDomain :=
  { b with hold := b.hold - n, prescaler := b.prescaler + (n - b.hold) }

/-- A second begins: the trimmed second, at minute count 0, takes its length from T (R75). -/
def BatteryDomain.beginSecond (b : BatteryDomain) : BatteryDomain :=
  if b.minute = 0 then { b with prescaler := b.trim.toNat, hold := (-b.trim).toNat }
  else { b with prescaler := 0, hold := 0 }

/-- SEC rises by 1 and stays at its top (R76). -/
def nextSec (sec : Nat) : Nat := if sec < maxQuad then sec + 1 else sec

/-- The minute count rises by 1, from 59 to 0 (R76). -/
def nextMinute (minute : Nat) : Nat := if minute < 59 then minute + 1 else 0

/-- A pending trim is taken (R76, R89). -/
def BatteryDomain.takeTrim (b : BatteryDomain) : BatteryDomain :=
  { b with trim := b.pendingTrim.getD b.trim, pendingTrim := none }

/-- A second boundary in the battery domain (R76): SEC, the minute count, at a minute boundary the pending
trim, and the start of the next second. -/
def BatteryDomain.nextSecond (b : BatteryDomain) : BatteryDomain :=
  let b := { b with sec := nextSec b.sec, minute := nextMinute b.minute }
  (if b.minute = 0 then b.takeTrim else b).beginSecond

/-! ## Battery checks (R153) -/

/-- The level is set, and BATTERY_WEAK posted once per power-up (R153). -/
def State.checkBattery (s : State) (weak : Bool) : State :=
  let post := weak && !s.bm.weakLogged
  let s := { s with bm := { s.bm with weak := weak } }
  if post then
    ({ s with bm := { s.bm with weakLogged := true } } : State).postFault .batteryWeak .both none
  else s

/-- The minute check is made in LOADING and LOADED alone (R153). -/
def State.minuteCheck (s : State) (weak : Bool) : State :=
  match s.bl.phase with
  | .loading => s.checkBattery weak
  | .loaded => s.checkBattery weak
  | _ => s

/-- The power-up check (R153): the level, then the marker. -/
def State.powerUpCheck (s : State) (weak : Bool) : State :=
  let s := s.checkBattery weak
  if s.bd.marker then
    let s := s.postFault .batteryLost .both none
    { s with bd := { s.bd with marker := false }, bm := { s.bm with lostAtPowerUp := true } }
  else { s with bm := { s.bm with lostAtPowerUp := false } }

/-! ## The day (R81 to R84) -/

/-- The day evaluation (R82). -/
def State.evaluateDay (s : State) : State :=
  let new := s.calcDay
  let old := s.bd.dhw
  if old < new then
    let s := { s with bd := { s.bd with dhw := new } }
    if s.bd.valid then s.post .game (.dayTurned old new) else s
  else s

/-- The mount's hand-over of a saved high-water (R83). -/
def State.handOverDay (s : State) (saved : Nat) : State :=
  let s := ({ s with bd := { s.bd with dhw := max s.bd.dhw saved } } : State).evaluateDay
  { s with gc := { s.gc with dayEval := true } }

/-! ## The rate check's ticks (R91, R92) -/

/-- The rate check runs. -/
def ClockConsole.checking (g : ClockConsole) : Bool := g.rate != .idle

/-- The reply that RATE_CHECK owed is placed and the check ends (R91, R92). -/
def State.endRateCheck (s : State) (code : Code) (result : List Byte) : State :=
  ({ s with gc := { s.gc with rate := .idle } } : State).reply .system
    { kind := Req.kind (.rateCheck 0), tag := s.gc.tag, code := code, result := result }

/-- Crystal ticks pass for a rate check: counted while COUNTING, taken from the gap timer (R91, R92). -/
def ClockConsole.pass (g : ClockConsole) (n : Nat) : ClockConsole :=
  { g with ticks := if g.rate = .counting then g.ticks + n else g.ticks, gap := g.gap - n }

/-- The fields of TIMEOUT (R92, R174). -/
def ClockConsole.timeoutFields (g : ClockConsole) : List Byte :=
  u16 g.target ++ u16 g.edges ++ u32 g.ticks

/-- Crystal ticks as the console half takes them: the gap timer reaching 0 on the way ends the check with
TIMEOUT (R92). -/
def State.rateTicks (s : State) (n : Nat) : State :=
  if s.powered && s.gc.checking then
    if n < s.gc.gap then { s with gc := s.gc.pass n }
    else
      let g := s.gc.pass s.gc.gap
      ({ s with gc := g } : State).endRateCheck .timeout g.timeoutFields
  else s

/-! ## Time passing -/

/-- The crystal counts: the battery domain has a supply that can run it (R150). Log entry 27. -/
def State.crystalRuns (s : State) : Bool := s.bm.supply != .batteryLost

/-- A second boundary (R76), and its part in the console domain while the console supply is present: at a
minute boundary the battery check, then the day evaluation. Log entry 30. -/
def State.secondBoundary (s : State) (weak : Bool) : State :=
  let s := { s with bd := s.bd.nextSecond }
  if s.powered then
    let s := if s.bd.minute = 0 then s.minuteCheck weak else s
    if s.gc.dayEval then s.evaluateDay else s
  else s

/-- The crystal runs to the end of the second. A gap timer that the same tick brings to 0 ends its check, and
TIMEOUT is placed, before the notices of that boundary (DESIGN CHOICE, log entry 30). -/
def State.toSecond (s : State) (weak : Bool) : State :=
  (s.rateTicks s.bd.ticksLeft).secondBoundary weak

/-- The crystal runs through a number of seconds and then to the end of one more, whose boundary finds the
battery reading given; the boundaries before it are not minute boundaries. -/
def State.toSeconds : Nat → Bool → State → State
  | 0, weak, s => s.toSecond weak
  | n + 1, weak, s => State.toSeconds n weak (s.toSecond false)

/-- Crystal ticks pass, with at most `fuel` second boundaries among them; the battery reading at a minute
boundary is a free value (log entry 9). -/
def State.passTicks : Nat → Nat → State → State
  | 0, _, s => s
  | fuel + 1, n, s =>
    let left := s.bd.ticksLeft
    if n < left then ({ s with bd := s.bd.count n } : State).rateTicks n
    else
      let (k, s) := s.draw
      State.passTicks fuel (n - left) (s.toSecond (Config.batteryBelow k))

/-- SECOND_BOUNDARY (R76): the crystal runs to the end of the second (log entry 4). -/
def execSecondBoundary (weak : Bool) (s : State) : Host.Outcome State Fault Refusal :=
  if s.crystalRuns then .next (s.toSecond weak) else .next s

/-- MINUTE_BOUNDARY (R76, R153): the crystal runs to the end of the second that brings the minute count to
0 (log entry 4). -/
def execMinuteBoundary (weak : Bool) (s : State) : Host.Outcome State Fault Refusal :=
  if s.crystalRuns then .next (State.toSeconds (59 - s.bd.minute) weak s) else .next s

/-- RATE_CHECK_TIMEOUT (R92): the crystal runs until the gap timer of the running check reaches 0. -/
def execRateCheckTimeout (s : State) : Host.Outcome State Fault Refusal :=
  if s.powered && s.gc.checking then .next (State.passTicks 3 s.gc.gap s) else .next s

/-- FRAME_SYNC_EDGE (R91). -/
def execFrameSyncEdge (s : State) : Host.Outcome State Fault Refusal :=
  if s.powered then
    match s.gc.rate with
    | .idle => .next s
    | .armed => .next { s with gc := { s.gc with rate := .counting, gap := gapTicks } }
    | .counting =>
      let g := { s.gc with edges := s.gc.edges + 1, gap := gapTicks }
      let s := { s with gc := g }
      if g.edges = g.target then .next (s.endRateCheck .ok (u16 g.target ++ u32 g.ticks)) else .next s
  else .next s

/-! ## The calendar (R79) -/

/-- A leap year (R79). -/
def isLeap (y : Nat) : Bool := y % 4 == 0 && (y % 100 != 0 || y % 400 == 0)

/-- The days of a year (R79). -/
def yearLength (y : Nat) : Nat := if isLeap y then 366 else 365

/-- The lengths of a year's months (R79). -/
def monthLengths (y : Nat) : List Nat :=
  [31, if isLeap y then 29 else 28, 31, 30, 31, 30, 31, 31, 30, 31, 30, 31]

/-- Whole years are taken from a day number while it is at least the length of the current year (R79). -/
def takeYears : Nat → Nat → Nat → Nat × Nat
  | 0, y, days => (y, days)
  | fuel + 1, y, days =>
    if yearLength y ≤ days then takeYears fuel (y + 1) (days - yearLength y) else (y, days)

/-- Whole months in the same way (R79). -/
def takeMonths : List Nat → Nat → Nat → Nat × Nat
  | [], m, days => (m, days)
  | len :: rest, m, days => if len ≤ days then takeMonths rest (m + 1) (days - len) else (m, days)

/-- A local date and time with its weekday (R79). -/
structure Calendar where
  year : Nat
  month : Nat
  day : Nat
  hour : Nat
  minute : Nat
  second : Nat
  weekday : Nat
  deriving DecidableEq, Repr

/-- The calendar of local seconds (R79). The year lies in 2000 to 2136, so 137 years suffice. -/
def calendar (ls : Nat) : Calendar :=
  let days := ls / 86400
  let sod := ls % 86400
  let (y, rest) := takeYears 137 2000 days
  let (m, d) := takeMonths (monthLengths y) 1 rest
  { year := y, month := m, day := d + 1, hour := sod / 3600, minute := sod % 3600 / 60,
    second := sod % 60, weekday := (days + 6) % 7 }

/-- The days from 2000-01-01 to a date (R86). -/
def daysTo (year month day : Nat) : Nat :=
  ((List.range (year - 2000)).map fun i => yearLength (2000 + i)).sum
    + ((monthLengths year).take (month - 1)).sum + (day - 1)

/-! ## Clock requests (R85 to R90) -/

/-- Local date and local time as fields, the date first (R85, R88). -/
def Calendar.dateFields (c : Calendar) : List Byte := u16 c.year ++ u8 c.month ++ u8 c.day

def Calendar.timeFields (c : Calendar) : List Byte := u8 c.hour ++ u8 c.minute ++ u8 c.second

/-- The calendar as the clock stands. -/
def State.calendar (s : State) : Calendar := Machine.calendar (localSeconds s.bd.sec s.bd.zone)

/-- The fields of CLOCK_READ (R85). -/
def State.clockFields (s : State) : List Byte :=
  s.calendar.dateFields ++ s.calendar.timeFields ++ u8 s.calendar.weekday ++ u16 s.gameDay
    ++ flag s.bd.valid ++ flag s.held ++ u8 (batteryLevelCode s.bm.weak)
    ++ flag s.bm.lostAtPowerUp ++ u32 s.bd.sec ++ i8 s.bd.zone ++ i8 s.bd.trim
    ++ optional 1 (s.bd.pendingTrim.map i8)

/-- CLOCK_READ (R85). -/
def jobClockRead (a : Ask) (s : State) : State := s.answer a .ok s.clockFields

/-- The length of a month in a year; 0 for a number that names no month. -/
def monthLength (year month : Nat) : Nat :=
  if month = 0 then 0 else ((monthLengths year)[month - 1]?).getD 0

/-- The date fields of CLOCK_SET pass their checks (R86). -/
def datePasses (d : ClockFields) : Bool :=
  decide (2000 ≤ d.year.toNat) && decide (d.year.toNat ≤ 2135) && decide (1 ≤ d.month.toNat)
    && decide (d.month.toNat ≤ 12) && decide (1 ≤ d.day.toNat)
    && decide (d.day.toNat ≤ monthLength d.year.toNat d.month.toNat) && decide (d.hour.toNat ≤ 23)
    && decide (d.minute.toNat ≤ 59) && decide (d.second.toNat ≤ 59)

/-- The local seconds that date fields name (R86). -/
def dateSeconds (d : ClockFields) : Nat :=
  daysTo d.year.toNat d.month.toNat d.day.toNat * 86400 + d.hour.toNat * 3600 + d.minute.toNat * 60
    + d.second.toNat

/-- The new second count of a CLOCK_SET (R86). -/
def newSeconds (d : ClockFields) (zone : Int) : Int := (dateSeconds d : Int) - zone * 900

/-- The battery domain after a CLOCK_SET (R87). -/
def BatteryDomain.set (b : BatteryDomain) (sec minute : Nat) : BatteryDomain :=
  { b with sec := sec, prescaler := 0, hold := 0, minute := minute, valid := true }

/-- CLOCK_SET (R86, R87). -/
def jobClockSet (a : Ask) (d : ClockFields) (s : State) : State :=
  if a.m = .game then s.refuse a .denied
  else if datePasses d && decide (0 ≤ newSeconds d s.bd.zone) then
    let s := ({ s with bd := s.bd.set (newSeconds d s.bd.zone).toNat d.second.toNat } :
      State).evaluateDay
    s.answer a .ok (u32 s.bd.sec ++ u16 s.gameDay ++ flag s.held)
  else s.refuse a .range

/-- ZONE_SET (R88). -/
def jobZoneSet (a : Ask) (zone : Byte) (s : State) : State :=
  if a.m = .game then s.refuse a .denied
  else if -48 ≤ zone.toInt ∧ zone.toInt ≤ 56 then
    let s := ({ s with bd := { s.bd with zone := zone.toInt } } : State).evaluateDay
    s.answer a .ok (i8 s.bd.zone ++ s.calendar.dateFields ++ s.calendar.timeFields ++ u16 s.gameDay
      ++ flag s.held)
  else s.refuse a .range

/-- A trim of TRIM_SET brought into its range (R89). -/
def clampTrim (w : Word) : Int := clampInt (-128) 127 w.toInt

/-- TRIM_SET (R89). The pending trim of its reply is always present, and carries no presence byte (DEDUCED, log
entry 13). -/
def jobTrimSet (a : Ask) (trim : Word) (s : State) : State :=
  if a.m = .game then s.refuse a .denied
  else
    let s := { s with bd := { s.bd with pendingTrim := some (clampTrim trim) } }
    s.answer a .ok (i8 s.bd.trim ++ i8 (clampTrim trim))

/-- RATE_CHECK (R90): an accepted check keeps its reply slot. -/
def jobRateCheck (a : Ask) (edges : Word) (s : State) : State :=
  if a.m = .game then s.refuse a .denied
  else if edges.toNat < 2 then s.refuse a .range
  else if s.gc.checking then s.refuse a .busy
  else
    { s with gc := { s.gc with rate := .armed, target := edges.toNat, edges := 0, ticks := 0,
                               gap := gapTicks, tag := a.tag } }

end Sys2Proof.Machine
end

