-- ==== Sys2Proof/Machine/Directory.lean ====
section
/-! DEFINITION. Directory pages (R94 to R97, R103): the stored form of a page, its validity, the order of
generations, and the walk of a chain. R94 fixes the parts and their order and gives no byte encoding; the
widths and codes here are the model's (DESIGN CHOICE, log entry 7). -/

namespace Sys2Proof.Machine

/-! ## Reading numbers out of bytes -/

/-- A little-endian number of bytes. -/
def leNat : List Byte → Nat
  | [] => 0
  | b :: rest => b.toNat + 256 * leNat rest

/-- The number in `width` bytes from an offset on. -/
def field (bytes : List Byte) (offset width : Nat) : Nat := leNat ((bytes.drop offset).take width)

/-! ## The layout: header 11 bytes, entries 32 × 18, block map 496 × 2, fill, trailer 6 -/

/-- The bytes of a directory page (R93). -/
def pageSize : Nat := 2048

/-- The bursts of a directory page (R93). -/
def pageBursts : Nat := 64

/-- The width of a slot entry. -/
def entrySize : Nat := 18

/-- Where the slot entries, the block map and the trailer begin. -/
def entriesAt : Nat := 11
def mapAt : Nat := entriesAt + 32 * entrySize
def trailerAt : Nat := pageSize - 6

/-- The map entry of a block in no chain, and of the last block of a chain. -/
def mapFree : Nat := 0
def mapEnd : Nat := 1

/-- The first SRAM byte of a page (R93). -/
def pageBase : PageId → Nat
  | .a => 0
  | .b => pageSize

/-! ## Generations (R97) -/

/-- The generation that follows (R97). -/
def nextGen (g : Nat) : Nat := if g = maxQuad then 1 else g + 1

/-- g is the higher of two generations (R97). -/
def higherGen (g h : Nat) : Bool :=
  let d := (g + (maxQuad + 1) - h) % (maxQuad + 1)
  decide (1 ≤ d) && decide (d ≤ 2147483647)

/-! ## Writing a page (R98) -/

/-- The map entry that a chain gives a block: the next block, or END at the last (R94). -/
def chainNext : List Nat → Nat → Option Nat
  | [], _ => none
  | [b], x => if b = x then some mapEnd else none
  | b :: c :: rest, x => if b = x then some c else chainNext (c :: rest) x

/-- The map entry of a block in a directory (R94). -/
def mapEntry (d : Directory) (b : Nat) : Nat :=
  (d.slots.toList.findSome? fun e =>
    match e.body with
    | none => none
    | some body => chainNext body.chain b).getD mapFree

/-- The copied-from slot as stored. -/
def SlotBody.copiedByte (b : SlotBody) : Nat :=
  b.copiedFrom.getD 0

/-- A slot entry's stored form. -/
def SlotEntry.encode (e : SlotEntry) : List Byte :=
  match e.body with
  | none => u8 SlotState.empty.code ++ List.replicate 12 0 ++ u16 e.serial ++ u8 0 ++ flag e.locked ++ u8 0
  | some b =>
    u8 (if b.damaged then SlotState.damaged.code else SlotState.valid.code) ++ u16 b.length
      ++ u16 (b.chain.head?.getD mapFree) ++ bytes16 b.check ++ u32 b.seconds ++ u16 b.day
      ++ u16 e.serial ++ u8 b.writer.code ++ flag e.locked ++ u8 b.copiedByte

/-- A page without its check (R94, R98): header, entries, map, fill, trailer generation. -/
def pageBody (d : Directory) (ng : Nat) : List Byte :=
  let front := u32 pageMagic ++ u32 d.gen ++ u16 d.dhw ++ u8 ng
    ++ d.slots.toList.flatMap SlotEntry.encode
    ++ ((List.range 496).map (· + 16)).flatMap fun b => u16 (mapEntry d b)
  front ++ List.replicate (trailerAt - front.length) 0 ++ u32 d.gen

/-- The bytes of a page (R94): the page check is its last two bytes. -/
def encodePage (d : Directory) (ng : Nat) : List Byte :=
  let body := pageBody d ng
  body ++ bytes16 (crc16 body)

/-- The 32 bytes that are burst `i` of some bytes, padded with zeros. -/
def burstOf (bytes : List Byte) (i : Nat) : List Byte :=
  let b := (bytes.drop (burstBytes * i)).take burstBytes
  b ++ List.replicate (burstBytes - b.length) 0

/-! ## Reading a page (R94, R102) -/

/-- A page is valid (R94). -/
def pageValid (p : List Byte) : Bool :=
  field p 0 4 == pageMagic && field p 4 4 != 0 && field p trailerAt 4 == field p 4 4
    && field p (trailerAt + 4) 2 == (crc16 (p.take (trailerAt + 4))).toNat

/-- A page's generation, saved DHW and Ng. The Ng of a page that passes its tests is taken as its byte stands, outside
1 to 30 too, which no part that wrote it stores (R94, R99; DESIGN CHOICE, log entry 24). -/
def pageGen (p : List Byte) : Nat := field p 4 4
def pageDhw (p : List Byte) : Nat := field p 8 2
def pageNg (p : List Byte) : Nat := field p 10 1

/-- A page's map entry for a block. -/
def pageMap (p : List Byte) (b : Nat) : Nat := field p (mapAt + 2 * (b - 16)) 2

/-- The writer a code names. Codes that the part does not write read as SYSTEM (log entry 24). -/
def writerOf (n : Nat) : Writer :=
  if n = Writer.game.code then .game else if n = Writer.copy.code then .copy else .system

/-- A slot entry as a page holds it, with the first block it names in place of a chain. A state code that
the part does not write reads as DAMAGED (log entry 24). -/
structure StoredSlot where
  state : SlotState
  length : Nat
  first : Nat
  check : Word
  seconds : Nat
  day : Nat
  serial : Nat
  writer : Writer
  locked : Bool
  copied : Nat
  deriving DecidableEq, Repr

/-- The slot state a code names. -/
def slotStateOf (n : Nat) : SlotState :=
  if n = SlotState.empty.code then .empty else if n = SlotState.valid.code then .valid else .damaged

/-- A page's entry for a slot (R95). -/
def pageSlot (p : List Byte) (s : Fin 32) : StoredSlot :=
  let e := (p.drop (entriesAt + entrySize * s.val)).take entrySize
  { state := slotStateOf (field e 0 1), length := field e 1 2, first := field e 3 2,
    check := BitVec.ofNat 16 (field e 5 2), seconds := field e 7 4, day := field e 11 2,
    serial := field e 13 2, writer := writerOf (field e 15 1), locked := field e 16 1 != 0,
    copied := field e 17 1 }

/-! ## The chain check (R103) -/

/-- A block number names a data block (R93). -/
def isDataBlock (b : Nat) : Bool := decide (16 ≤ b) && decide (b ≤ 511)

/-- The walk of a chain from block `b`, `left` being how many blocks it still has to have: the blocks kept,
and whether the walk found the chain whole (R103's table). -/
def walkChain (next : Nat → Nat) : Nat → List Nat → Nat → List Nat × Bool
  | 0, _, _ => ([], true)
  | left + 1, claimed, b =>
    if !isDataBlock b || next b == mapFree || claimed.contains b then ([], false)
    else if left = 0 then ([b], next b == mapEnd)
    else if next b = mapEnd then ([b], false)
    else
      let r := walkChain next left (b :: claimed) (next b)
      (b :: r.1, r.2)

/-- The number of blocks of a length (R95). -/
def blocksFor (length : Nat) : Nat := ceilDiv length 256

/-- A stored slot's chain and whether it is whole (R103): a length of 0 or above 32,768 has none. -/
def StoredSlot.walk (e : StoredSlot) (next : Nat → Nat) (claimed : List Nat) : List Nat × Bool :=
  if e.length = 0 ∨ 32768 < e.length then ([], false)
  else walkChain next (blocksFor e.length) claimed e.first

/-- The working directory's entry for a stored slot and the chain kept (R102, R103). -/
def StoredSlot.entry (e : StoredSlot) (chain : List Nat) (whole : Bool) : SlotEntry :=
  { serial := e.serial
    locked := e.locked
    body := match e.state with
      | .empty => none
      | st => some
        { damaged := st == .damaged || !whole, length := e.length, check := e.check,
          seconds := e.seconds, day := e.day, writer := e.writer,
          copiedFrom := if e.writer = .copy then some (e.copied % 32) else none,
          chain := chain } }

end Sys2Proof.Machine
end

