-- ==== Sys2Proof/Machine/Store.lean ====
section
/-! DEFINITION. The save store (chapter 6) and the turns of its commit queue (R120 to R122): completion of
store operations, directory page writes and their commit point, the mount, and the two reporting
requests. -/

namespace Sys2Proof.Machine

/-! ## Completion of a store operation (R50) -/

/-- The store operation in flight, when the console domain runs and its owner is the one asked for, with
whether the work it belonged to has ended. -/
def State.completing (s : State) (pick : OpOwner → Bool) : Option (StoreOp × Bool) :=
  if s.powered then
    match s.pma.inFlight with
    | some (.store op d) => if pick op.owner then some (op, d) else none
    | _ => none
  else none

/-- A write has its bytes in SRAM at completion, while the write gate is open (R50, R155). -/
def State.writeOut (s : State) (op : StoreOp) : State :=
  match op.bytes with
  | some bytes =>
    if s.bd.gateOpen then { s with sram := s.sram.writeBytes sramBlank op.addr bytes } else s
  | none => s

/-- The 32 bytes an SRAM read delivers. -/
def State.readBurst (s : State) (op : StoreOp) : List Byte :=
  s.sram.readBytes sramBlank op.addr burstBytes

/-- A store operation completes: its bytes move, its work goes on unless it has ended, and the arbiter
decides (R47, R50; log entry 26). Without such a burst in flight nothing completes (log entry 2). -/
def completeStore (pick : OpOwner → Bool) (act : StoreOp → List Byte → State → State) (s : State) :
    Host.Outcome State Fault Refusal :=
  match s.completing pick with
  | none => .next s
  | some (op, discarded) =>
    if op.addr + burstBytes ≤ sramSize then
      let s' := s.busFree.writeOut op
      .next (if discarded then s' else act op (s.readBurst op) s').arbitrate
    else .fault .sramAddress

/-! ## Directory page writes (R98) -/

/-- The 64 write bursts of a page, in address order. -/
def pageOps (target : PageId) (bytes : List Byte) : List StoreOp :=
  (List.range pageBursts).map fun i =>
    { owner := .page i, addr := pageBase target + burstBytes * i, bytes := some (burstOf bytes i) }

/-- A page write begins: the image carries the DHW that GC holds (R84, R98). -/
def State.beginPage (s : State) (target : PageId) (image : Directory) (entry : Option Entry)
    (released : List Nat) : State :=
  let image := { image with dhw := s.bd.dhw }
  { s with ss := { s.ss with
      pageWrite := some { target := target, image := image, entry := entry, released := released,
                          left := pageBursts, orphan := false }
      ops := s.ss.ops ++ pageOps target (encodePage image s.bl.cfg.ng) } }

/-! ## A commit queue entry's turn (R120, R121) -/

/-- The request whose reply an entry owes. -/
def Entry.ask (e : Entry) : Ask :=
  { m := e.requester, tag := e.tag
    kind := match e.kind with
      | .txn => Req.kind .saveCommit
      | .erase => Req.kind (.slotErase 0)
      | .copy => Req.kind (.slotCopy 0 0)
      | .lock on => Req.kind (.slotLock 0 on) }

/-- A commit serial advances by 1, modulo 65536 (R95). -/
def nextSerial (n : Nat) : Nat := (n + 1) % 65536

/-- The writer that a transaction's master gives (R121). -/
def writerFor : Master → Writer
  | .game => .game
  | .system => .system

/-- The body that a transaction commit gives its slot (R121). -/
def State.txnBody (s : State) (m : Master) (t : Txn) : SlotBody :=
  { damaged := false, length := t.length, check := t.running, seconds := s.bd.sec, day := s.gameDay,
    writer := writerFor m, copiedFrom := none, chain := t.reservation }

/-- The body that a copy-commit gives its slot (R121). -/
def State.copyBody (s : State) (c : Copy) : SlotBody :=
  { damaged := false, length := c.length, check := c.check, seconds := s.bd.sec, day := s.gameDay,
    writer := .copy, copiedFrom := some c.source.val, chain := c.reservation }

/-- The slot entry after an entry's turn; none when the entry would leave it unchanged and no page is
written (R120, R121). -/
def State.applied (s : State) (e : Entry) : Option SlotEntry :=
  let cur := s.ss.dir.slots[e.slot]
  let serial := nextSerial cur.serial
  match e.kind with
  | .erase => if cur.body.isNone then none else some { cur with body := none, serial := serial }
  | .lock on => if cur.locked = on then none else some { cur with locked := on, serial := serial }
  | .txn => (s.ss.txn e.requester).map fun t =>
      { cur with body := some (s.txnBody e.requester t), serial := serial }
  | .copy => s.ss.copy.map fun c => { cur with body := some (s.copyBody c), serial := serial }

/-- A slot entry's commit day, 0 for an EMPTY slot, which has none. -/
def SlotEntry.day (e : SlotEntry) : Nat :=
  match e.body with
  | none => 0
  | some b => b.day

/-- The fields of an entry's reply (R117, R120 to R122; log entry 13). -/
def EntryKind.fields (k : EntryKind) (e : SlotEntry) (gen : Nat) : List Byte :=
  match k with
  | .txn => u16 e.serial ++ u16 e.day ++ u32 gen
  | .copy => u16 e.serial ++ u16 e.day ++ u32 gen
  | .erase => u16 e.serial ++ u32 gen
  | .lock _ => u16 e.serial ++ flag e.locked ++ u32 gen

/-- The blocks that a new slot entry drops from its slot's chain (R108). -/
def droppedBlocks (old new : SlotEntry) : List Nat :=
  old.chain.filter fun b => !new.chain.contains b

/-- The page write of an entry begins, with the image that differs in the entry's own slot (R120). -/
def State.beginEntry (s : State) (e : Entry) (new : SlotEntry) : State :=
  s.beginPage (targetPage s.ss.active)
    { s.ss.dir with gen := nextGen s.ss.dir.gen, slots := putAt s.ss.dir.slots e.slot new }
    (some e) (droppedBlocks s.ss.dir.slots[e.slot] new)

/-- Entries take their turns from the head while no page write is in flight (R120). -/
def State.turns : List Entry → State → State
  | [], s => s
  | e :: rest, s =>
    if s.ss.pageWrite.isSome then s
    else
      let s := { s with ss := { s.ss with commits := rest } }
      match s.applied e with
      | none =>
        State.turns rest
          (s.answer e.ask .ok (e.kind.fields s.ss.dir.slots[e.slot] s.ss.dir.gen))
      | some new => s.beginEntry e new

/-- The turns of the commit queue as it stands. -/
def State.takeTurns (s : State) : State := State.turns s.ss.commits s

/-- An entry is appended to the commit queue, and takes its turn at once when none is ahead (R120). -/
def State.appendEntry (s : State) (e : Entry) : State :=
  ({ s with ss := { s.ss with commits := s.ss.commits ++ [e] } } : State).takeTurns

/-! ## The end of the mount (R105) -/

/-- The mount completes: the hand-over, STORE_READY, READY (R105). -/
def State.completeMount (s : State) : State :=
  let s := s.handOverDay s.ss.dir.dhw
  let s := s.postBoth (.storeReady s.ss.result s.ss.dir.gen (s.ss.dir.countState .valid)
    (s.ss.dir.countState .damaged))
  { s with ss := { s.ss with state := .ready, mount := none } }

/-! ## The commit point (R98, R122) -/

/-- The end of the work whose entry has committed (R122, R127). -/
def Store.endCommitted (ss : Store) (e : Entry) : Store :=
  match e.kind with
  | .txn => ss.setTxn e.requester none
  | .copy => { ss with copy := none }
  | _ => ss

/-- The working directory at an entry's commit point: the entry's own slot from the image, every other
slot as it stands, marks made meanwhile among them (R122). -/
def Directory.commit (d image : Directory) (slot : Fin 32) : Directory :=
  { gen := image.gen, dhw := image.dhw, slots := putAt d.slots slot image.slots[slot] }

/-- The commit point of an entry: the directory, the end of its work, the reply, the next turn (R122). -/
def State.commitEntry (s : State) (w : PageWrite) (e : Entry) : State :=
  let ss := { s.ss with pageWrite := none, active := some w.target
                        dir := s.ss.dir.commit w.image e.slot }
  let s := { s with ss := ss.endCommitted e }
  (s.answer e.ask .ok (e.kind.fields w.image.slots[e.slot] w.image.gen)).takeTurns

/-- The commit point of a format: the mount goes on with the page just written, whose slots are all EMPTY
(R101, R102). -/
def State.commitFormat (s : State) (w : PageWrite) : State :=
  ({ s with ss := { s.ss with pageWrite := none, active := some w.target, dir := w.image
                              result := some .formatted, headerNg := some s.bl.cfg.ng } } :
    State).completeMount

/-- The completion of a page write that a console reset cut off from its effects (R108, R161, R162). -/
def State.endOrphan (s : State) : State :=
  let s := { s with ss := { s.ss with pageWrite := none } }
  if s.bl.phase = .waiting then { s with bl := { s.bl with phase := .loading } } else s

/-- The last burst of a page write has completed (R98). -/
def State.pageWritten (s : State) (w : PageWrite) : State :=
  if w.orphan then s.endOrphan
  else match w.entry with
    | none => s.commitFormat w
    | some e => s.commitEntry w e

/-- A burst of the page write in flight has completed. -/
def State.pageBurst (s : State) : State :=
  match s.ss.pageWrite with
  | none => s
  | some w =>
    if w.left ≤ 1 then s.pageWritten w
    else { s with ss := { s.ss with pageWrite := some { w with left := w.left - 1 } } }

/-- The owner of a page write burst. -/
def OpOwner.isPage : OpOwner → Bool
  | .page _ => true
  | _ => false

/-- PAGE_WRITE_BURST_COMPLETE (R98). -/
def execPageWriteBurstComplete (s : State) : Host.Outcome State Fault Refusal :=
  completeStore OpOwner.isPage (fun _ _ s => s.pageBurst) s

/-! ## The mount (R100 to R104) -/

/-- The read bursts of a page. -/
def mountOps (p : PageId) : List StoreOp :=
  (List.range pageBursts).map fun i =>
    { owner := .mountPage p i, addr := pageBase p + burstBytes * i, bytes := none }

/-- The store becomes MOUNTING, and what the working directory held before a console reset is discarded
(R100, R135). -/
def State.startMount (s : State) : State :=
  { s with ss := { s.ss with
      state := .mounting, mount := some { pageA := [], pageB := [], scan := none }
      dir := Directory.initial
      ops := s.ss.ops ++ mountOps .a ++ mountOps .b } }

/-- The reads of one block, eight bursts (R93). -/
def blockReads (owner : OpOwner) (b : Nat) : List StoreOp :=
  (List.range 8).map fun i => { owner := owner, addr := b * 256 + burstBytes * i, bytes := none }

/-- A slot is marked DAMAGED in the working directory (R104, R134): nothing else of it changes. -/
def SlotEntry.mark (e : SlotEntry) : SlotEntry :=
  { e with body := e.body.map fun b => { b with damaged := true } }

/-- A slot is marked and SLOT_DAMAGED is logged (R103, R104, R134). -/
def State.markSlot (s : State) (slot : Fin 32) : State :=
  ({ s with ss := s.ss.setSlot slot s.ss.dir.slots[slot].mark } : State).slotDamaged slot

/-- The scan of one slot begins (R104): the read bursts of its blocks in chain order. -/
def State.beginScan (s : State) (slot : Fin 32) (rest : List (Fin 32)) (b : SlotBody) (m : Mount) :
    State :=
  let sc : Scan :=
    { slot := slot, crc := crc16Init, contentLeft := b.length, burstsLeft := 8 * b.chain.length,
      rest := rest }
  { s with ss := { s.ss with
      mount := some { m with scan := some sc }
      ops := s.ss.ops ++ b.chain.flatMap (blockReads .mountScan) } }

/-- The scan goes on with the next VALID slot of those left, and after the last the mount completes
(R104, R105). -/
def State.scanFrom : List (Fin 32) → State → State
  | [], s => s.completeMount
  | slot :: rest, s =>
    match s.ss.dir.slots[slot].body, s.ss.mount with
    | some b, some m =>
      if b.damaged then State.scanFrom rest s else s.beginScan slot rest b m
    | _, _ => State.scanFrom rest s

/-- The slot numbers, ascending. -/
def slotNumbers : List (Fin 32) := List.finRange 32

/-- The mount after the chain check: the scan when the scan flag is set (R104). -/
def State.scanOrComplete (s : State) : State :=
  if s.bl.cfg.scan then State.scanFrom slotNumbers s else s.completeMount

/-- The chain check of one slot (R103): its entry enters the working directory with the chain kept, and a
VALID slot whose chain is not whole is logged. -/
def State.checkSlot (page : List Byte) (acc : State × List Nat) (slot : Fin 32) : State × List Nat :=
  let e := pageSlot page slot
  match e.state with
  | .empty => ({ acc.1 with ss := acc.1.ss.setSlot slot (e.entry [] true) }, acc.2)
  | st =>
    let w := e.walk (pageMap page) acc.2
    let s := { acc.1 with ss := acc.1.ss.setSlot slot (e.entry w.1 w.2) }
    (if st = .valid && !w.2 then s.slotDamaged slot else s, acc.2 ++ w.1)

/-- The working directory is built from the active page (R102, R103). -/
def State.buildFrom (s : State) (p : PageId) (page : List Byte) : State :=
  let s := { s with ss := { s.ss with
    active := some p, headerNg := some (pageNg page)
    dir := { gen := pageGen page, dhw := pageDhw page, slots := s.ss.dir.slots } } }
  (slotNumbers.foldl (State.checkSlot page) (s, [])).1

/-- The mount goes on with the active page (R102 to R104). -/
def State.mountOn (s : State) (p : PageId) (page : List Byte) (r : MountResult) : State :=
  (({ s with ss := { s.ss with result := some r } } : State).buildFrom p page).scanOrComplete

/-- DIRECTORY_DAMAGED is logged (R100). -/
def State.directoryDamaged (s : State) : State := s.postFault .directoryDamaged .both none

/-- A blank store is formatted (R101). -/
def State.format (s : State) : State :=
  let s := s.postFault .storeBlank .both none
  let s := { s with ss := { s.ss with state := .formatting } }
  s.beginPage .a { gen := 1, dhw := 0, slots := Vector.replicate 32 SlotEntry.initial } none []

/-- The pages are tested and the active page is chosen (R97, R100). Of generations 2,147,483,648 apart neither
is the higher, and page B is taken with NORMAL (DESIGN CHOICE, log entry 37). -/
def State.testPages (s : State) (pa pb : List Byte) : State :=
  if pageValid pa then
    if pageValid pb then
      if pageGen pa = pageGen pb then s.directoryDamaged.mountOn .a pa .onePage
      else if higherGen (pageGen pa) (pageGen pb) then s.mountOn .a pa .normal
      else s.mountOn .b pb .normal
    else s.directoryDamaged.mountOn .a pa .onePage
  else if pageValid pb then s.directoryDamaged.mountOn .b pb .onePage
  else s.format

/-- A burst of a page read arrives (R100). -/
def State.pageArrives (s : State) (m : Mount) (p : PageId) (index : Nat) (bytes : List Byte) : State :=
  match p with
  | .a => { s with ss := { s.ss with mount := some { m with pageA := m.pageA ++ bytes } } }
  | .b =>
    let m := { m with pageB := m.pageB ++ bytes }
    let s := { s with ss := { s.ss with mount := some m } }
    if index + 1 < pageBursts then s else s.testPages m.pageA m.pageB

/-- The content check of a slot equals a CRC (R104); a slot without content has none to differ. -/
def Directory.checkMatches (d : Directory) (slot : Fin 32) (crc : Word) : Bool :=
  match d.slots[slot].body with
  | some b => b.check == crc
  | none => true

/-- A burst of the scan arrives (R104). -/
def State.scanArrives (s : State) (m : Mount) (sc : Scan) (bytes : List Byte) : State :=
  let crc := crc16From sc.crc (bytes.take sc.contentLeft)
  if 1 < sc.burstsLeft then
    let sc := { sc with crc := crc, contentLeft := sc.contentLeft - bytes.length,
                        burstsLeft := sc.burstsLeft - 1 }
    { s with ss := { s.ss with mount := some { m with scan := some sc } } }
  else
    let s := { s with ss := { s.ss with mount := some { m with scan := none } } }
    State.scanFrom sc.rest (if s.ss.dir.checkMatches sc.slot crc then s else s.markSlot sc.slot)

/-- A mount read goes on (R100, R104). -/
def State.mountArrives (op : StoreOp) (bytes : List Byte) (s : State) : State :=
  match s.ss.mount, op.owner with
  | some m, .mountPage p i => s.pageArrives m p i bytes
  | some m, .mountScan => match m.scan with
    | some sc => s.scanArrives m sc bytes
    | none => s
  | _, _ => s

/-- The owners of mount reads. -/
def OpOwner.isMount : OpOwner → Bool
  | .mountPage _ _ => true
  | .mountScan => true
  | _ => false

/-- MOUNT_READ_COMPLETE (R100). -/
def execMountReadComplete (s : State) : Host.Outcome State Fault Refusal :=
  completeStore OpOwner.isMount State.mountArrives s

/-! ## Asking about the store (R110, R111) -/

/-- The largest length a SAVE_OPEN could reserve (R110). -/
def State.largestOpen (s : State) : Nat := min (s.ss.freeBlocks.length * 256) s.bl.cfg.maxLength

/-- The fields of STORE_INFO (R110); the block sets in the order of R106's table (DEDUCED, log entry 13). -/
def State.storeFields (s : State) : List Byte :=
  u8 s.ss.state.code ++ u8 (mountResultCode s.ss.result) ++ u8 (activePageCode s.ss.active)
    ++ u32 s.ss.dir.gen ++ u8 (s.ss.headerNg.getD 0) ++ u8 s.bl.cfg.ng
    ++ u16 (s.ss.setCount .committingReleased) ++ u16 (s.ss.setCount .chained)
    ++ u16 (s.ss.setCount .reserved) ++ u16 (s.ss.setCount .pinnedReleased)
    ++ u16 (s.ss.setCount .free) ++ u8 (s.ss.dir.countState .valid)
    ++ u8 (s.ss.dir.countState .damaged) ++ u8 s.ss.placesTaken ++ flag s.ss.pageWrite.isSome
    ++ u16 s.largestOpen ++ u8 (batteryLevelCode s.bm.weak) ++ flag s.bm.lostAtPowerUp

/-- STORE_INFO (R110). -/
def jobStoreInfo (a : Ask) (s : State) : State := s.answer a .ok s.storeFields

/-- The fields of SLOT_INFO (R111, R174). -/
def SlotEntry.infoFields (e : SlotEntry) (gameDay : Nat) : List Byte :=
  u8 e.state.code ++ u16 e.serial ++ flag e.locked
    ++ optional 2 (e.body.map fun b => u16 b.length)
    ++ optional 4 (e.body.map fun b => u32 b.seconds)
    ++ optional 2 (e.body.map fun b => u16 b.day)
    ++ optional 1 (e.body.map fun b => u8 b.writer.code)
    ++ optional 1 (e.body.map fun b => u8 b.chain.length)
    ++ optional 1 (match e.body with
        | some b => if b.writer = .copy then b.copiedFrom.map u8 else none
        | none => none)
    ++ optional 2 (if e.state = .valid then some (u16 (gameDay - e.day)) else none)

/-- A request that names a slot: RANGE above 31, then the right, whose want logs ACCESS_DENIED with the
slot as its subject (R138, R140). -/
def withSlot (a : Ask) (b : Byte) (right : Fin 32 → Bool) (s : State) (act : Fin 32 → State) : State :=
  match slotOf b with
  | none => s.refuse a .range
  | some slot => if right slot then act slot else s.denyRight a (some slot.val)

/-- SLOT_INFO (R111). -/
def jobSlotInfo (a : Ask) (b : Byte) (s : State) : State :=
  withSlot a b (readRight s.bl.cfg a.m) s fun slot =>
    s.answer a .ok (s.ss.dir.slots[slot].infoFields s.gameDay)

end Sys2Proof.Machine
end

