-- ==== Sys2Proof/Machine/Save.lean ====
section
/-! DEFINITION. The operations on saves (chapter 7): write transactions, the requests that enter the commit
queue, overtaking, the copy, read cursors, verifies, and the marking of damage. -/

namespace Sys2Proof.Machine

/-! ## Regions (R116) -/

/-- The bytes of a content region. -/
def regionBytes : Nat := 32

/-- The SRAM address of content region `j` of a chain or reservation (R116). -/
def regionAddr (chain : List Nat) (j : Nat) : Nat :=
  (chain[j / 8]?).getD 0 * 256 + j % 8 * regionBytes

/-- The number of regions that a length of content takes (R127). -/
def regionCount (length : Nat) : Nat := ceilDiv length regionBytes

/-- The content bytes that region `j` holds of a length. -/
def contentIn (length j : Nat) (bytes : List Byte) : List Byte := bytes.take (length - regionBytes * j)

/-- The read burst of one region. -/
def regionRead (owner : OpOwner) (chain : List Nat) (j : Nat) : StoreOp :=
  { owner := owner, addr := regionAddr chain j, bytes := none }

/-! ## Marking damage (R134) -/

/-- A reader's version of a slot is current: its serial stands and the slot is VALID (R134). -/
def State.versionCurrent (s : State) (slot : Fin 32) (serial : Nat) : Bool :=
  let e := s.ss.dir.slots[slot]
  e.serial == serial && e.state == .valid

/-- A mismatch found by a reader of a slot version (R134). -/
def State.mismatch (s : State) (slot : Fin 32) (serial : Nat) : State :=
  if s.versionCurrent slot serial then s.markSlot slot else s

/-! ## Write transactions (R113 to R118) -/

/-- The free pool holds fewer blocks than a length needs (R107). -/
def State.noSpace (s : State) (length : Nat) : Bool :=
  decide (s.ss.freeBlocks.length < blocksFor length)

/-- The reservation of a length: the lowest-numbered free blocks (R107). -/
def State.reserve (s : State) (length : Nat) : List Nat := s.ss.freeBlocks.take (blocksFor length)

/-- A new transaction (R115). -/
def State.newTxn (s : State) (slot : Fin 32) (length : Nat) : Txn :=
  { slot := slot, length := length, state := .opened, reservation := s.reserve length, cursor := 0,
    running := crc16Init, region := List.replicate regionBytes 0 }

/-- SAVE_OPEN (R115). -/
def jobSaveOpen (a : Ask) (b : Byte) (length : Word) (s : State) : State :=
  withSlot a b (writeRight s.bl.cfg a.m) s fun slot =>
    let len := length.toNat
    if s.ss.lockSeen slot then s.refuse a .locked
    else if (s.ss.txn a.m).isSome then s.refuse a .busy
    else if s.ss.claimed slot then s.refuse a .slotBusy
    else if len = 0 ∨ s.bl.cfg.maxLength < len then s.refuse a .range
    else if s.noSpace len then s.refuse a .noSpace
    else
      ({ s with ss := s.ss.setTxn a.m (some (s.newTxn slot len)) } : State).answer a .ok
        (u8 (blocksFor len))

/-- The bytes of a transaction's current region accepted before more are appended, then those (R116). -/
def Txn.stream (t : Txn) (bytes : List Byte) : List Byte := t.region.take (t.cursor % regionBytes) ++ bytes

/-- The region copy after bytes have been appended: the region that holds the new cursor (R113). -/
def Txn.newRegion (t : Txn) (bytes : List Byte) : List Byte :=
  burstOf (t.stream bytes) ((t.stream bytes).length / regionBytes)

/-- The write bursts of a SAVE_DATA (R116): one for each region its bytes touch, in ascending order; the
last carries the cursor that its reply reports (log entry 14). -/
def Txn.dataOps (t : Txn) (m : Master) (tag : Byte) (bytes : List Byte) : List StoreOp :=
  let stream := t.stream bytes
  let first := t.cursor / regionBytes
  let count := ceilDiv stream.length regionBytes
  (List.range count).map fun i =>
    { owner := .data m tag (if i + 1 = count then some (t.cursor + bytes.length) else none)
      addr := regionAddr t.reservation (first + i)
      bytes := some (burstOf stream i) }

/-- A transaction after bytes have been accepted (R116). -/
def Txn.append (t : Txn) (bytes : List Byte) : Txn :=
  { t with
    cursor := t.cursor + bytes.length
    running := crc16From t.running bytes
    region := t.newRegion bytes
    state := if t.cursor + bytes.length = t.length then .filled else t.state }

/-- SAVE_DATA (R116): an accepted request keeps its reply slot until its last burst completes. -/
def jobSaveData (a : Ask) (bytes : List Byte) (s : State) : State :=
  match s.ss.txn a.m with
  | none => s.refuse a .noTransaction
  | some t =>
    if t.length < t.cursor + bytes.length then s.refuse a .range
    else
      ((s.setStore (s.ss.setTxn a.m (some (t.append bytes)))).pushOps
        (t.dataOps a.m a.tag bytes)).arbitrate

/-- A data burst has completed (R116): the last of its request brings the reply. -/
def State.dataWritten (op : StoreOp) (_ : List Byte) (s : State) : State :=
  match op.owner with
  | .data m tag (some cursor) =>
    s.reply m { kind := Req.kind (.saveData []), tag := tag, code := .ok, result := u16 cursor }
  | _ => s

def OpOwner.isData : OpOwner → Bool
  | .data _ _ _ => true
  | _ => false

/-- DATA_WRITE_COMPLETE (R116). -/
def execDataWriteComplete (s : State) : Host.Outcome State Fault Refusal :=
  completeStore OpOwner.isData State.dataWritten s

/-- SAVE_COMMIT (R117). -/
def jobSaveCommit (a : Ask) (s : State) : State :=
  match s.ss.txn a.m with
  | none => s.refuse a .noTransaction
  | some t =>
    match t.state with
    | .opened => s.refuse a .incomplete
    | .committing => s.refuse a .busy
    | .filled =>
      if s.ss.queueFull then s.refuse a .busy
      else
        ((s.setStore (s.ss.setTxn a.m (some { t with state := .committing }))).appendEntry
          { kind := .txn, slot := t.slot, requester := a.m, tag := a.tag }).arbitrate

/-- A burst is one of a master's data bursts. -/
def isDataOf (m : Master) (op : StoreOp) : Bool :=
  match op.owner with
  | .data m' _ _ => m' == m
  | _ => false

/-- The tag of the SAVE_DATA whose last burst this is. -/
def lastDataTag (m : Master) (op : StoreOp) : Option Byte :=
  match op.owner with
  | .data m' tag (some _) => if m' = m then some tag else none
  | _ => none

/-- The SAVE_DATA requests of a master not fully completed, in their order: each has its last burst in
flight or waiting. -/
def State.unfinishedData (s : State) (m : Master) : List Byte :=
  (s.pma.storeOp.toList ++ s.ss.ops).filterMap (lastDataTag m)

/-- Requests of one kind are answered NO_TRANSACTION, in their order (log entry 15). -/
def State.answerNone (s : State) (m : Master) (kind : Byte) (tags : List Byte) : State :=
  tags.foldl (fun s tag => s.refuse { m := m, tag := tag, kind := kind } .noTransaction) s

/-- The bursts of work that ends: those waiting are withdrawn, one in flight completes without effect on
its work. -/
def State.dropOps (s : State) (pick : StoreOp → Bool) : State :=
  { s with ss := s.ss.withdraw pick, pma := s.pma.orphan pick }

/-- A transaction in OPEN or FILLED ends without a commit (R118, R125). -/
def State.endTxn (s : State) (m : Master) : State :=
  let s := (s.answerNone m (Req.kind (.saveData [])) (s.unfinishedData m)).dropOps (isDataOf m)
  s.setStore (s.ss.setTxn m none)

/-- SAVE_ABORT (R118). -/
def jobSaveAbort (a : Ask) (s : State) : State :=
  match s.ss.txn a.m with
  | none => s.refuse a .noTransaction
  | some t => if t.state = .committing then s.refuse a .busy else (s.endTxn a.m).answer a .ok []

/-! ## Erase, lock and overtaking (R123 to R125) -/

/-- The other master's OPEN or FILLED transaction on a slot is overtaken (R125). -/
def State.overtake (s : State) (m : Master) (slot : Fin 32) (reason : LostReason) : State :=
  if txnNamesOpen slot (s.ss.txn m.other) then
    (s.endTxn m.other).post m.other (.txnLost slot reason)
  else s

/-- The slot is claimed by the requester's own OPEN or FILLED transaction, or by the running copy (R123,
R124). -/
def Store.ownClaim (ss : Store) (m : Master) (slot : Fin 32) : Bool :=
  txnNamesOpen slot (ss.txn m) || copyClaims slot ss.copy

/-- SLOT_ERASE (R123). -/
def jobSlotErase (a : Ask) (b : Byte) (s : State) : State :=
  withSlot a b (eraseRight s.bl.cfg a.m) s fun slot =>
    if s.ss.lockSeen slot then s.refuse a .locked
    else if s.ss.ownClaim a.m slot then s.refuse a .slotBusy
    else if s.ss.queueFull then s.refuse a .busy
    else
      ((s.overtake a.m slot .erased).appendEntry
        { kind := .erase, slot := slot, requester := a.m, tag := a.tag }).arbitrate

/-- SLOT_LOCK (R124). -/
def jobSlotLock (a : Ask) (b : Byte) (on : Bool) (s : State) : State :=
  withSlot a b (fun _ => lockRight a.m) s fun slot =>
    if on && s.ss.ownClaim a.m slot then s.refuse a .slotBusy
    else if s.ss.queueFull then s.refuse a .busy
    else
      let s := if on then s.overtake a.m slot .locked else s
      (s.appendEntry { kind := .lock on, slot := slot, requester := a.m, tag := a.tag }).arbitrate

/-! ## Copying a slot (R126, R127) -/

/-- The running copy at its acceptance (R126). -/
def State.newCopy (s : State) (a : Ask) (src dst : Fin 32) (serial : Nat) (b : SlotBody) : Copy :=
  { requester := a.m, tag := a.tag, source := src, destination := dst, chain := b.chain,
    length := b.length, check := b.check, serial := serial, reservation := s.reserve b.length,
    region := 0, crc := crc16Init, queued := false }

/-- An accepted copy starts: it overtakes, takes its snapshot and places its first read (R126, R127). -/
def State.startCopy (s : State) (a : Ask) (src dst : Fin 32) (b : SlotBody) : State :=
  let s := s.overtake a.m dst .replaced
  let c := s.newCopy a src dst s.ss.dir.slots[src].serial b
  ((s.setStore { s.ss with copy := some c }).pushOps [regionRead .copyRead c.chain 0]).arbitrate

/-- The checks of R126 after the rights, in their order. -/
def copyChecked (a : Ask) (src dst : Fin 32) (s : State) : State :=
  if src = dst then s.refuse a .range
  else if s.ss.lockSeen dst then s.refuse a .locked
  else if s.ss.copy.isSome then s.refuse a .busy
  else if txnNamesOpen dst (s.ss.txn a.m) then s.refuse a .slotBusy
  else match s.ss.dir.slots[src].body with
    | none => s.refuse a .empty
    | some b =>
      if b.damaged then s.refuse a .damaged
      else if s.ss.queueFull then s.refuse a .busy
      else if s.noSpace b.length then s.refuse a .noSpace
      else s.startCopy a src dst b

/-- SLOT_COPY (R126). -/
def jobSlotCopy (a : Ask) (source destination : Byte) (s : State) : State :=
  match slotOf source, slotOf destination with
  | some src, some dst =>
    if !readRight s.bl.cfg a.m src then s.denyRight a (some src.val)
    else if !copyInRight a.m then s.denyRight a (some dst.val)
    else copyChecked a src dst s
  | _, _ => s.refuse a .range

/-- The copy's own request, for its reply. -/
def Copy.ask (c : Copy) : Ask :=
  { m := c.requester, tag := c.tag, kind := Req.kind (.slotCopy 0 0) }

/-- The copy ends with DAMAGED (R127): its reservation, place, pins and claim go with it, the source is
marked, and then the reply is placed. -/
def State.copyDamaged (s : State) (c : Copy) : State :=
  ((s.setStore { s.ss with copy := none }).mismatch c.source c.serial).refuse c.ask .damaged

/-- A read of the copy has completed (R127): the write of the same region is placed, and at the last
region the CRC decides (log entry 22). A copy that has queued its entry has no read left. -/
def State.copyArrives (_ : StoreOp) (bytes : List Byte) (s : State) : State :=
  match s.ss.copy with
  | none => s
  | some c =>
    if c.queued then s else
    let crc := crc16From c.crc (contentIn c.length c.region bytes)
    let write : StoreOp :=
      { owner := .copyWrite, addr := regionAddr c.reservation c.region, bytes := some bytes }
    if c.region + 1 < regionCount c.length then
      (s.setStore { s.ss with copy := some { c with crc := crc } }).pushOps [write]
    else if crc = c.check then
      ((s.setStore { s.ss with copy := some { c with crc := crc, queued := true } }).pushOps
        [write]).appendEntry
          { kind := .copy, slot := c.destination, requester := c.requester, tag := c.tag }
    else s.copyDamaged c

/-- A write of the copy has completed (R127): the next region is read, if one is left. -/
def State.copyWritten (_ : StoreOp) (_ : List Byte) (s : State) : State :=
  match s.ss.copy with
  | none => s
  | some c =>
    if c.queued then s
    else
      (s.setStore { s.ss with copy := some { c with region := c.region + 1 } }).pushOps
        [regionRead .copyRead c.chain (c.region + 1)]

def OpOwner.isCopyRead : OpOwner → Bool
  | .copyRead => true
  | _ => false

def OpOwner.isCopyWrite : OpOwner → Bool
  | .copyWrite => true
  | _ => false

/-- COPY_READ_COMPLETE (R127). -/
def execCopyReadComplete (s : State) : Host.Outcome State Fault Refusal :=
  completeStore OpOwner.isCopyRead State.copyArrives s

/-- COPY_WRITE_COMPLETE (R127). -/
def execCopyWriteComplete (s : State) : Host.Outcome State Fault Refusal :=
  completeStore OpOwner.isCopyWrite State.copyWritten s

/-! ## Read cursors (R128 to R130) -/

/-- A burst is one of a master's load reads. -/
def isLoadOf (m : Master) (op : StoreOp) : Bool :=
  match op.owner with
  | .load m' => m' == m
  | _ => false

/-- A master's cursor is closed (R128, R130): its reads are dropped and each LOAD_DATA not yet answered is
answered NO_TRANSACTION. -/
def State.closeCursor (s : State) (m : Master) : State :=
  match s.ss.cursor m with
  | none => s
  | some c =>
    let s := (s.answerNone m (Req.kind (.loadData 0)) (c.loads.map (·.tag))).dropOps (isLoadOf m)
    s.setStore (s.ss.setCursor m none)

/-- A new cursor on a slot version (R128). -/
def newCursor (slot : Fin 32) (serial : Nat) (b : SlotBody) : Cursor :=
  { slot := slot, chain := b.chain, length := b.length, check := b.check, serial := serial, pos := 0,
    running := crc16Init, loads := [] }

/-- LOAD_OPEN (R128). -/
def jobLoadOpen (a : Ask) (b : Byte) (s : State) : State :=
  withSlot a b (readRight s.bl.cfg a.m) s fun slot =>
    let e := s.ss.dir.slots[slot]
    match e.body with
    | none => s.refuse a .empty
    | some body =>
      if body.damaged then s.refuse a .damaged
      else
        let s := s.closeCursor a.m
        (s.setStore (s.ss.setCursor a.m (some (newCursor slot e.serial body)))).answer a .ok
          (u16 body.length ++ u16 e.serial)

/-- The read bursts of `take` content bytes from a position: one for each region they touch (R129). -/
def loadOps (m : Master) (chain : List Nat) (pos take : Nat) : List StoreOp :=
  let first := pos / regionBytes
  (List.range (ceilDiv (pos % regionBytes + take) regionBytes)).map fun i =>
    regionRead (.load m) chain (first + i)

/-- A LOAD_DATA that takes at least one byte is accepted (R129). -/
def State.acceptLoad (s : State) (a : Ask) (c : Cursor) (take : Nat) : State :=
  let ops := loadOps a.m c.chain c.pos take
  let l : LoadReq :=
    { tag := a.tag, start := c.pos, take := take, burstsLeft := ops.length, got := [] }
  let c := { c with pos := c.pos + take, loads := c.loads ++ [l] }
  ((s.setStore (s.ss.setCursor a.m (some c))).pushOps ops).arbitrate

/-- LOAD_DATA (R129). -/
def jobLoadData (a : Ask) (count : Byte) (s : State) : State :=
  if count.toNat = 0 ∨ 64 < count.toNat then s.refuse a .range
  else match s.ss.cursor a.m with
    | none => s.refuse a .noTransaction
    | some c =>
      let take := min count.toNat (c.length - c.pos)
      if take = 0 then s.answer a .ok [] else s.acceptLoad a c take

/-- The content bytes that a LOAD_DATA returns, from the regions it has gathered (R129). -/
def LoadReq.content (l : LoadReq) : List Byte := (l.got.drop (l.start % regionBytes)).take l.take

/-- The request of a LOAD_DATA, for its reply. -/
def loadAsk (m : Master) (l : LoadReq) : Ask := { m := m, tag := l.tag, kind := Req.kind (.loadData 0) }

/-- A LOAD_DATA has all its bytes (R129): the running check takes them; at the content's last byte it is
compared, a mismatch marks the slot, and the reply carries the same bytes with DAMAGED. -/
def State.finishLoad (s : State) (m : Master) (c : Cursor) (l : LoadReq) (rest : List LoadReq) : State :=
  let running := crc16From c.running l.content
  let s := s.setStore (s.ss.setCursor m (some { c with running := running, loads := rest }))
  if l.start + l.take = c.length ∧ running ≠ c.check then
    (s.mismatch c.slot c.serial).answer (loadAsk m l) .damaged l.content
  else s.answer (loadAsk m l) .ok l.content

/-- A read of a cursor has completed: it belongs to the oldest LOAD_DATA not yet answered (R129). -/
def State.loadArrives (op : StoreOp) (bytes : List Byte) (s : State) : State :=
  match op.owner with
  | .load m =>
    match s.ss.cursor m with
    | none => s
    | some c =>
      match c.loads with
      | [] => s
      | l :: rest =>
        let l := { l with got := l.got ++ bytes, burstsLeft := l.burstsLeft - 1 }
        if l.burstsLeft = 0 then s.finishLoad m c l rest
        else s.setStore (s.ss.setCursor m (some { c with loads := l :: rest }))
  | _ => s

def OpOwner.isLoad : OpOwner → Bool
  | .load _ => true
  | _ => false

/-- LOAD_READ_COMPLETE (R129). -/
def execLoadReadComplete (s : State) : Host.Outcome State Fault Refusal :=
  completeStore OpOwner.isLoad State.loadArrives s

/-- LOAD_CLOSE (R130). -/
def jobLoadClose (a : Ask) (s : State) : State := (s.closeCursor a.m).answer a .ok []

/-! ## Verifying (R131 to R133) -/

/-- A slot is in a scope (R131). -/
def VerifyScope.has (sc : VerifyScope) (ng : Nat) (slot : Fin 32) : Bool :=
  match sc with
  | .one s => s == slot
  | .game => isGameSlot ng slot
  | .system => !isGameSlot ng slot
  | .all => true

/-- The slots of a scope, in slot order (R133). -/
def VerifyScope.slots (sc : VerifyScope) (ng : Nat) : List (Fin 32) := slotNumbers.filter (sc.has ng)

/-- A scope covers a scope (R131; log entry 21). -/
def VerifyScope.covers (big : VerifyScope) (ng : Nat) (small : VerifyScope) : Bool :=
  match big, small with
  | .all, _ => true
  | .game, .game => true
  | .game, .one s => isGameSlot ng s
  | .system, .system => true
  | .system, .one s => !isGameSlot ng s
  | .one s, .one t => s == t
  | _, _ => false

/-- The scope that a request's parameters name (R174): RANGE for a scope value of 4 or more, and for a
slot above 31. -/
def scopeOf (scope slot : Byte) : Option VerifyScope :=
  if scope = 0 then (slotOf slot).map .one
  else if scope = 1 then some .game
  else if scope = 2 then some .system
  else if scope = 3 then some .all
  else none

/-- The scope as a reply carries it, in the encoding of the request (R174); the slot byte of a scope of more
than one slot is 0 (DESIGN CHOICE, log entry 42). -/
def VerifyScope.fields : VerifyScope → List Byte
  | .one s => u8 0 ++ u8 s.val
  | .game => u8 1 ++ u8 0
  | .system => u8 2 ++ u8 0
  | .all => u8 3 ++ u8 0

/-- The subject of the ACCESS_DENIED that refuses a scope (R131, R138). -/
def VerifyScope.subject : VerifyScope → Option Nat
  | .one s => some s.val
  | _ => none

/-- A verify of a scope at its start (R132). -/
def newVerify (ng : Nat) (sc : VerifyScope) (requesters : List (Master × Byte)) : Verify :=
  { scope := sc, requesters := requesters, rest := sc.slots ng, current := none, checked := 0,
    damaged := 0 }

/-- The first slot of a list that the working directory holds as VALID, with its serial and body, and the
slots after it (R133). -/
def Directory.firstValid (d : Directory) :
    List (Fin 32) → Option ((Fin 32 × Nat × SlotBody) × List (Fin 32))
  | [] => none
  | slot :: rest =>
    match d.slots[slot].body with
    | some b => if b.damaged then d.firstValid rest else some ((slot, d.slots[slot].serial, b), rest)
    | none => d.firstValid rest

/-- The verify takes a slot: it records the version, pins the chain, and places the first read (R133). -/
def State.verifySlot (s : State) (v : Verify) (slot : Fin 32) (serial : Nat) (b : SlotBody)
    (rest : List (Fin 32)) : State :=
  let c : VerifySlot :=
    { slot := slot, serial := serial, chain := b.chain, length := b.length, check := b.check,
      region := 0, crc := crc16Init }
  (s.setStore { s.ss with verify := some { v with current := some c, rest := rest } }).pushOps
    [regionRead .verify b.chain 0]

/-- The fields of STORE_VERIFY's reply (R133, R174). -/
def Verify.fields (v : Verify) : List Byte := v.scope.fields ++ u8 v.checked ++ u8 v.damaged

/-- Each requester of a verify that has ended receives OK, in the order they joined (R133). -/
def State.replyVerify (s : State) (v : Verify) : State :=
  v.requesters.foldl (fun s r =>
    s.answer { m := r.1, tag := r.2, kind := Req.kind (.storeVerify 0 0) } .ok v.fields) s

/-- The running verify goes on to its next VALID slot; after its last it ends, and the pending verify, if
any, starts (R132, R133). Two verifies at most end at once, the running and the pending one. -/
def State.advanceVerify : Nat → State → State
  | 0, s => s
  | fuel + 1, s =>
    match s.ss.verify with
    | none => s
    | some v =>
      match s.ss.dir.firstValid v.rest with
      | some ((slot, serial, b), rest) => s.verifySlot v slot serial b rest
      | none =>
        let s := (s.setStore { s.ss with verify := none }).replyVerify v
        match s.ss.pendingVerify with
        | none => s
        | some p =>
          State.advanceVerify fuel
            (s.setStore { s.ss with verify := some (newVerify s.bl.cfg.ng p.scope p.requesters)
                                    pendingVerify := none })

/-- The steps that `advanceVerify` can need. -/
def verifyFuel : Nat := 2

/-- An accepted STORE_VERIFY is placed (R132). -/
def State.placeVerify (s : State) (a : Ask) (sc : VerifyScope) : State :=
  let ng := s.bl.cfg.ng
  let me := (a.m, a.tag)
  match s.ss.verify with
  | none =>
    (State.advanceVerify verifyFuel
      (s.setStore { s.ss with verify := some (newVerify ng sc [me]) })).arbitrate
  | some v =>
    if v.scope.covers ng sc then
      s.setStore { s.ss with verify := some { v with requesters := v.requesters ++ [me] } }
    else match s.ss.pendingVerify with
      | none => s.setStore { s.ss with pendingVerify := some { scope := sc, requesters := [me] } }
      | some p =>
        if p.scope.covers ng sc then
          s.setStore
            { s.ss with pendingVerify := some { p with requesters := p.requesters ++ [me] } }
        else if sc.covers ng p.scope then
          let wide : PendingVerify := { scope := sc, requesters := p.requesters ++ [me] }
          s.setStore { s.ss with pendingVerify := some wide }
        else s.refuse a .busy

/-- STORE_VERIFY (R131, R132, R138). -/
def jobStoreVerify (a : Ask) (scope slot : Byte) (s : State) : State :=
  match scopeOf scope slot with
  | none => s.refuse a .range
  | some sc =>
    if (sc.slots s.bl.cfg.ng).all (readRight s.bl.cfg a.m) then s.placeVerify a sc
    else s.denyRight a sc.subject

/-- The verify has read a whole slot (R133): the pins are released, the slot counts as checked, and a
mismatch of a version still current marks it and counts it as damaged. -/
def State.verifyDone (s : State) (v : Verify) (c : VerifySlot) (crc : Word) : State :=
  let marks := crc != c.check && s.versionCurrent c.slot c.serial
  let v := { v with current := none, checked := v.checked + 1,
                    damaged := if marks then v.damaged + 1 else v.damaged }
  let s := s.setStore { s.ss with verify := some v }
  State.advanceVerify verifyFuel (if marks then s.markSlot c.slot else s)

/-- A read of the verify has completed (R133). -/
def State.verifyArrives (_ : StoreOp) (bytes : List Byte) (s : State) : State :=
  match s.ss.verify with
  | none => s
  | some v =>
    match v.current with
    | none => s
    | some c =>
      let crc := crc16From c.crc (contentIn c.length c.region bytes)
      if c.region + 1 < regionCount c.length then
        let c := { c with crc := crc, region := c.region + 1 }
        (s.setStore { s.ss with verify := some { v with current := some c } }).pushOps
          [regionRead .verify c.chain c.region]
      else s.verifyDone v c crc

def OpOwner.isVerify : OpOwner → Bool
  | .verify => true
  | _ => false

/-- VERIFY_READ_COMPLETE (R133). -/
def execVerifyReadComplete (s : State) : Host.Outcome State Fault Refusal :=
  completeStore OpOwner.isVerify State.verifyArrives s

end Sys2Proof.Machine
end

