-- ==== Sys2Proof/Machine/Startup.lean ====
section
/-! DEFINITION. Supply events, console power-up, the configuration read and console reset (chapter 9), and
the PART_INFO request (R172). -/

namespace Sys2Proof.Machine

/-! ## The configuration block (R157, R158, R175) -/

/-- The bytes of the configuration block. -/
def configSize : Nat := 64

/-- The block passes its two tests (R157, R175). -/
def configAccepted (b : List Byte) : Bool :=
  field b 0 4 == configMagic && field b 62 2 == (crc16 (b.take 62)).toNat

/-- The fields of the block as stored (R175); a flag is set for any value but 0 (R158). -/
def storedConfig (b : List Byte) : LoadedConfig :=
  { romBytes := field b 4 4, ng := field b 8 1, visible := field b 9 1 != 0, maxLength := field b 10 2,
    scan := field b 12 1 != 0, guarantee := field b 13 1, gameLevel := field b 14 2,
    systemLevel := field b 16 2, strength := field b 18 1, tb := field b 19 1, pc := field b 20 2,
    td := field b 22 2, tm := field b 24 2, dutyCap := field b 26 1, boundary := field b 28 4 }

/-- Each field brought into its range (R158); Tm after Pc, against the loaded Pc. -/
def clampConfig (c : LoadedConfig) : LoadedConfig :=
  let pc := clamp 256 2047 c.pc
  { romBytes := clamp 64 romSize c.romBytes, ng := clamp 1 30 c.ng,
    maxLength := clamp 256 32768 c.maxLength, visible := c.visible, scan := c.scan,
    guarantee := min 4 c.guarantee, gameLevel := min 255 c.gameLevel,
    systemLevel := min 255 c.systemLevel, strength := min 4 c.strength, pc := pc,
    td := clamp 1 255 c.td, tm := min pc c.tm, dutyCap := clamp 1 100 c.dutyCap, tb := min 15 c.tb,
    boundary := min 86399 c.boundary }

/-- The numeric fields of a configuration. -/
def LoadedConfig.numbers (c : LoadedConfig) : List Nat :=
  [c.romBytes, c.ng, c.maxLength, c.guarantee, c.gameLevel, c.systemLevel, c.strength, c.pc, c.td, c.tm,
   c.dutyCap, c.tb, c.boundary]

/-- The clamped count: the fields whose values the clamping changed (R157, R158). -/
def clampedCount (c : LoadedConfig) : Nat :=
  ((c.numbers.zip (clampConfig c).numbers).filter fun p => p.1 != p.2).length

/-- The check of the block (R157): its values, clamped, or the built-in defaults with CONFIG_INVALID. -/
def State.checkConfig (s : State) (b : List Byte) : State :=
  if configAccepted b then
    { s with bl := { s.bl with cfg := clampConfig (storedConfig b), source := .block
                               clamped := clampedCount (storedConfig b) } }
  else
    ({ s with bl := { s.bl with cfg := builtIn, source := .defaults, clamped := 0 } } :
      State).postFault .configInvalid .both none

/-- The loaded values are handed to their users and the phase becomes LOADED (R159). -/
def State.handOut (s : State) : State :=
  let s := { s with mx := { s.mx with mg := s.bl.cfg.gameLevel, ms := s.bl.cfg.systemLevel }
                    bl := { s.bl with phase := .loaded } }
  s.rumbleLoad.startMount

/-- A configuration burst's bytes arrive; after the second the block is checked (R157). -/
def State.configArrives (s : State) (index : Nat) (bytes : List Byte) : State :=
  let all := s.bl.bytes ++ bytes
  let s := { s with bl := { s.bl with bytes := all } }
  if index = 0 then s else (s.checkConfig all).handOut

/-- CONFIG_BURST_COMPLETE (R157). -/
def execConfigBurstComplete (s : State) : Host.Outcome State Fault Refusal :=
  if s.powered then
    match s.pma.inFlight with
    | some (.boot index discarded) =>
      let addr := burstBytes * index
      if addr + burstBytes ≤ romSize then
        let bytes := s.rom.readBytes romBlank addr burstBytes
        .next (if discarded then s.busFree else s.busFree.configArrives index bytes).arbitrate
      else .fault .romAddress
    | _ => .next s
  else .next s

/-- The boot loader starts to read the block (R157): LOADING, with no burst granted. -/
def Boot.startRead (b : Boot) : Boot := { b with phase := .loading, granted := 0, bytes := [] }

/-! ## Supply failing (R154, R155) -/

/-- The bytes of a write burst cut by the closing gate: each is written or not (R155; log entry 8). -/
def cutBytes (k : Nat) (old new : List Byte) : List Byte :=
  (List.range burstBytes).map fun i =>
    if Config.cutByteWritten k i then (new[i]?).getD 0 else (old[i]?).getD 0

/-- The burst in flight is cut (R50, R155): a write leaves its 32 bytes partly written, and the bus is lost
with the console domain. -/
def State.cutBurst (s : State) : State :=
  let s' := s.busFree
  match s.pma.inFlight with
  | some (.store op _) =>
    match op.bytes with
    | some bytes =>
      if s.bd.gateOpen && decide (op.addr + burstBytes ≤ sramSize) then
        let (k, s') := s'.draw
        let cut := cutBytes k (s.readBurst op) bytes
        { s' with sram := s'.sram.writeBytes sramBlank op.addr cut }
      else s'
    | none => s'
  | _ => s'

/-- A burst of the page write in flight has been granted. -/
def State.pageBegun (s : State) : Bool :=
  match s.ss.pageWrite with
  | none => false
  | some w => decide (w.left < pageBursts) || (match s.pma.inFlight with
    | some (.store op _) => op.owner.isPage
    | _ => false)

/-- The address of the last byte of a page's check. -/
def checkEnd (p : PageId) : Nat := pageBase p + pageSize - 1

/-- A torn page stays invalid (R98, R155): should the bytes that reached it form a valid page, its check is
made to fail (DESIGN CHOICE, log entry 8). -/
def State.tearPage (s : State) : State :=
  match s.ss.pageWrite with
  | none => s
  | some w =>
    if pageValid (s.sram.readBytes sramBlank (pageBase w.target) pageSize) then
      let old := s.sram.read sramBlank (checkEnd w.target)
      { s with sram := s.sram.write sramBlank (checkEnd w.target) (~~~old) }
    else s

/-- What the cut leaves in SRAM (R136, R155). -/
def State.cutWrites (s : State) : State :=
  let begun := s.pageBegun
  let s := s.cutBurst
  if begun then s.tearPage else s

/-- SUPPLY_FAILING (R154): the gate closes on a burst in flight, the driver latches its cutoff, the audio
line is 0, and the console domain is held. Its items stand until the next power-up gives them their initial
values; no command reaches them (log entry 16). Where the state becomes BATTERY_LOST the battery domain's items stand
likewise, until its restart (DESIGN CHOICE, log entry 45). -/
def execSupplyFailing (batteryAble : Bool) (s : State) : Host.Outcome State Fault Refusal :=
  if s.powered then
    let s := s.cutWrites
    let s := { s with bd := { s.bd with gateOpen := false }, mx := s.mx.silence }
    let s := { s with linkOut := s.cutFrame }
    let s := s.latchCutoff .supplyFailing
    .next { s with bm := { s.bm with supply := if batteryAble then .batteryHold else .batteryLost } }
  else .next s

/-! ## Battery events (R150, R152) -/

/-- BATTERY_LOSS (R150): in BATTERY_HOLD the battery no longer runs the battery domain. R150 says that its state is
gone and gives its items no value; in BATTERY_LOST they stand as they were until the restart sets each one (DESIGN
CHOICE, log entry 45). -/
def execBatteryLoss (s : State) : Host.Outcome State Fault Refusal :=
  if s.bm.supply = .batteryHold then .next { s with bm := { s.bm with supply := .batteryLost } }
  else .next s

/-- BATTERY_DOMAIN_RESTART (R150, R152): in BATTERY_LOST a battery able to run the domain is fitted. -/
def execBatteryDomainRestart (s : State) : Host.Outcome State Fault Refusal :=
  if s.bm.supply = .batteryLost then
    .next { s with bd := BatteryDomain.restarted, bm := { s.bm with supply := .batteryHold } }
  else .next s

/-- SRAM_CONTENTS_LOST (R150): in BATTERY_LOST the voltage falls too low for the SRAM. -/
def execSramContentsLost (s : State) : Host.Outcome State Fault Refusal :=
  if s.bm.supply = .batteryLost then .next { s with sram := [] } else .next s

/-! ## Console power-up (R156) -/

/-- Every console-domain block at its values for console power-up, with the battery domain, the memories,
the cutoff input's level and the model's own fields as they stand (R156). -/
def State.consoleInitial (s : State) : State :=
  { voices := Vector.replicate 16 Voice.initial
    age := []
    mx := Mixer.initial
    channels := Vector.replicate 16 Channel.initial
    pma := { inFlight := none, runCount := 0 }
    rd := Rumble.initial s.rd.cutoffInput
    bd := s.bd
    gc := ClockConsole.initial
    ss := Store.initial
    fl := FaultLog.initial
    bm := { supply := .consoleOn, weak := false, lostAtPowerUp := false, weakLogged := false }
    bl := Boot.initial
    game := GamePort.initial
    sys := SystemPort.initial
    rom := s.rom
    sram := s.sram
    busData := s.busData
    linkOut := s.linkOut
    free := s.free
    pending := s.pending }

/-- A battery-domain restart taken with the power-up (R150, R156 step 1). -/
def State.restartIfLost (s : State) : State :=
  if s.bm.supply = .batteryLost then { s with bd := BatteryDomain.restarted } else s

/-- CONSOLE_POWER_UP (R156): steps 1 and 2, and the start of step 3. -/
def execConsolePowerUp (weak : Bool) (s : State) : Host.Outcome State Fault Refusal :=
  if s.powered then .next s
  else
    let s := s.restartIfLost.consoleInitial
    let s := { s with bd := { s.bd with gateOpen := true } }
    .next (s.powerUpCheck weak).arbitrate

/-! ## Console reset (R161, R162) -/

/-- A voice record after console reset (R20). -/
def Voice.afterReset (x : Voice) : Voice :=
  let x := if x.inUse then x.ended .reset else x
  { x with pendingStep := none, pendingVolume := none, pendingPan := none, level := 0, starve := 0,
           last := Contribution.zero }

/-- A channel after console reset (R39): a burst in flight for it completes with its bytes discarded (R46,
R51). -/
def Channel.afterReset (c : Channel) : Channel :=
  { Channel.initial with inFlight := c.inFlight, discard := c.inFlight }

/-- The burst in flight at console reset: a burst of the page write runs on, any other store or boot burst
completes with its bytes discarded (R161). -/
def Burst.afterReset : Burst → Burst
  | .fetch v a l => .fetch v a l
  | .store op d => .store op (d || !op.owner.isPage)
  | .boot i _ => .boot i true

/-- The store controller after console reset (R112, R135): all dropped but a page write in flight; the
working directory stays, its marks with it, until the mount discards it. -/
def Store.afterReset (ss : Store) : Store :=
  { Store.initial with
    dir := ss.dir
    ops := ss.ops.filter fun op => op.owner.isPage
    pageWrite := ss.pageWrite.map fun w => { w with orphan := true } }

/-- CONSOLE_RESET (R161). -/
def execConsoleReset (s : State) : Host.Outcome State Fault Refusal :=
  if s.powered then
    .next
      { s with
        voices := s.voices.map Voice.afterReset
        age := []
        mx := Mixer.initial
        channels := s.channels.map Channel.afterReset
        pma := { inFlight := s.pma.inFlight.map Burst.afterReset, runCount := 0 }
        rd := Rumble.initial s.rd.cutoffInput
        gc := ClockConsole.initial
        ss := s.ss.afterReset
        bl := { s.bl with phase := .held, cfg := builtIn, granted := 0, bytes := [] }
        game := GamePort.initial
        sys := SystemPort.initial
        linkOut := s.cutFrame }
  else .next s

/-- RESET_RELEASE (R162): WAITING while a page write is in flight, LOADING otherwise. -/
def execResetRelease (s : State) : Host.Outcome State Fault Refusal :=
  if s.powered && s.bl.phase == .held then
    if s.ss.pageWrite.isSome then .next { s with bl := { s.bl with phase := .waiting } }
    else .next ({ s with bl := s.bl.startRead } : State).arbitrate
  else .next s

/-! ## PART_INFO (R172) -/

/-- The fields of PART_INFO (R172, R174): the link counts for the system processor alone. -/
def State.partFields (s : State) (m : Master) : List Byte :=
  let count (n : Nat) : Option (List Byte) := if m = .system then some (u16 n) else none
  u16 partCode ++ u8 partRevision ++ u8 s.bl.phase.code ++ u8 s.bl.source.code ++ u8 s.bl.clamped
    ++ optional 2 (count s.sys.bad) ++ optional 2 (count s.sys.unready)

/-- The link counts are made 0 after they are reported, for the system processor alone (R172). -/
def SystemPort.clearCounts (p : SystemPort) (m : Master) (clear : Bool) : SystemPort :=
  if clear && m == .system then { p with bad := 0, unready := 0 } else p

/-- PART_INFO (R172). -/
def jobPartInfo (a : Ask) (clear : Bool) (s : State) : State :=
  ({ s with sys := s.sys.clearCounts a.m clear } : State).answer a .ok (s.partFields a.m)

end Sys2Proof.Machine
end

