-- ==== Sys2Proof/Machine/Ports.lean ====
section
/-! DEFINITION. The request ports (chapter 10): from a request to its job, hand-over and draining, the
assembly of words and frames, and the reads, writes and frames of the two ports. -/

namespace Sys2Proof.Machine

/-! ## From a request to its job (R160, R168, R169) -/

/-- The family of a request, as R160's table gathers them. -/
inductive Family where
  | part
  | running
  | clock
  | store
  deriving DecidableEq, Repr

/-- The family a request is in (R160, R174). -/
def requestFamily : Req → Family
  | .partInfo _ => .part
  | .clockRead => .clock
  | .clockSet _ => .clock
  | .zoneSet _ => .clock
  | .trimSet _ => .clock
  | .rateCheck _ => .clock
  | .storeInfo => .store
  | .slotInfo _ => .store
  | .saveOpen _ _ => .store
  | .saveData _ => .store
  | .saveCommit => .store
  | .saveAbort => .store
  | .loadOpen _ => .store
  | .loadData _ => .store
  | .loadClose => .store
  | .slotErase _ => .store
  | .slotCopy _ _ => .store
  | .slotLock _ _ => .store
  | .storeVerify _ _ => .store
  | _ => .running

/-- A family's job runs (R160): PART_INFO in every phase; the others from LOADED on, the clock from the
mount's hand-over (R77), the store once it is READY (R99). -/
def State.familyReady (s : State) : Family → Bool
  | .part => true
  | .running => s.loaded
  | .clock => s.loaded && s.gc.dayEval
  | .store => s.loaded && s.ss.state == .ready

/-- The job that a request is handed to carries it out. -/
def runJob (a : Ask) (q : Req) (s : State) : State :=
  match q with
  | .voiceStart p => jobVoiceStart a p s
  | .voiceSet p => jobVoiceSet a p s
  | .voiceRelease h => jobVoiceRelease a h s
  | .voiceStop h => jobVoiceStop a h s
  | .voiceQuery h => jobVoiceQuery a h s
  | .mixLevel l c => jobMixLevel a l c s
  | .duckSet f => jobDuckSet a f s
  | .rumbleEnable on => jobRumbleEnable a on s
  | .rumbleStrength x => jobRumbleStrength a x s
  | .rumbleResume => jobRumbleResume a s
  | .rumbleStatus => jobRumbleStatus a s
  | .clockRead => jobClockRead a s
  | .clockSet d => jobClockSet a d s
  | .zoneSet z => jobZoneSet a z s
  | .trimSet t => jobTrimSet a t s
  | .rateCheck n => jobRateCheck a n s
  | .storeInfo => jobStoreInfo a s
  | .slotInfo b => jobSlotInfo a b s
  | .saveOpen b l => jobSaveOpen a b l s
  | .saveData bytes => jobSaveData a bytes s
  | .saveCommit => jobSaveCommit a s
  | .saveAbort => jobSaveAbort a s
  | .loadOpen b => jobLoadOpen a b s
  | .loadData c => jobLoadData a c s
  | .loadClose => jobLoadClose a s
  | .slotErase b => jobSlotErase a b s
  | .slotCopy x y => jobSlotCopy a x y s
  | .slotLock b on => jobSlotLock a b on s
  | .storeVerify x y => jobStoreVerify a x y s
  | .faultRead i => jobFaultRead a i s
  | .faultClearIndex i => jobFaultClearIndex a i s
  | .faultClearAllMine => jobFaultClearAllMine a s
  | .faultClearOverflow => jobFaultClearOverflow a s
  | .faultClearOther _ _ => s.refuse a .range
  | .partInfo c => jobPartInfo a c s

/-- The request being carried out. -/
def askOf (m : Master) (tag : Byte) (q : Req) : Ask := { m := m, tag := tag, kind := q.kind }

/-- A well-formed request is taken: NOT_READY before any other check while its job does not run (R160,
R171), otherwise the job. -/
def State.takeReq (s : State) (m : Master) (tag : Byte) (q : Req) : State :=
  if s.familyReady (requestFamily q) then runJob (askOf m tag q) q s
  else s.refuse (askOf m tag q) .notReady

/-- A reply slot is reserved for the request handed over (R168). -/
def State.reserveSlot (s : State) (m : Master) : State :=
  s.setQueues m { s.queues m with reserved := (s.queues m).reserved + 1 }

/-- A request leaves its port: BAD_REQUEST when it is malformed, before any job sees it, with the kind as the request
gave it (R169). To a kind of 0 the reply has kind 0, and its header word reads as 0x0000, which R165 says no reply
header does (DESIGN CHOICE, log entry 47). -/
def State.handOver (s : State) (m : Master) (r : Request) : State :=
  match decodeRequest r with
  | none => (s.reserveSlot m).refuse { m := m, tag := r.tag, kind := r.kind } .badRequest
  | some q => (s.reserveSlot m).takeReq m r.tag q

/-- A master's request queue without its head. -/
def State.setRequests (s : State) (m : Master) (rs : List Request) : State :=
  s.setQueues m { s.queues m with requests := rs }

/-- Requests are handed over from the head while a reply slot is free (R168), `n` of them at most. -/
def State.drain (m : Master) : Nat → State → State
  | 0, s => s
  | n + 1, s =>
    match (s.queues m).requests with
    | [] => s
    | r :: rest =>
      if (s.queues m).slotFree then State.drain m n ((s.setRequests m rest).handOver m r) else s

/-- All requests that can be handed over are. -/
def State.drainAll (s : State) (m : Master) : State := State.drain m (s.queues m).requests.length s

/-- A complete request enters its queue at the tail, and is handed over when it can be (R164, R168). -/
def State.enqueue (s : State) (m : Master) (r : Request) : State :=
  (s.setRequests m ((s.queues m).requests ++ [r])).drainAll m

/-- The free places of a master's request queue. -/
def State.requestSpace (s : State) : Master → Nat
  | .game => s.game.space
  | .system => s.sys.space

/-- What a port does with a request that finds no place: the overflow flag (R164), or the unready frame
count (10.3). -/
def State.noPlace (s : State) : Master → State
  | .game => { s with game := { s.game with overflow := true } }
  | .system => { s with sys := { s.sys with unready := min maxCount (s.sys.unready + 1) } }

/-- A raw request arrives whole at its master's port (log entry 3). -/
def State.arriveRaw (s : State) (m : Master) (r : Request) : State :=
  if 0 < s.requestSpace m then s.enqueue m r else s.noPlace m

/-- A request's parameters have a number of bytes that its kind allows (R116, R169): only SAVE_DATA's can
fail to. -/
def requestSized : Req → Bool
  | .saveData bytes => decide (1 ≤ bytes.length) && decide (bytes.length ≤ 64)
  | _ => true

/-- A request arrives whole at its master's port (log entry 3). With nothing ahead of it and a reply slot
free it is handed over at once; otherwise it queues in its wire form. -/
def State.arrive (s : State) (m : Master) (tag : Byte) (q : Req) : State :=
  if (s.queues m).requests.isEmpty && (s.queues m).slotFree && requestSized q then
    (s.reserveSlot m).takeReq m tag q
  else s.arriveRaw m (q.encode tag)

/-- The command that carries a request: only a part whose console domain runs receives it. -/
def receive (m : Master) (tag : Byte) (q : Req) (s : State) : Host.Outcome State Fault Refusal :=
  if s.powered then .next (s.arrive m tag q) else .next s

/-! ## The game bus port (R164, R165, R173) -/

/-- The parameter length that a header word declares (11.1). -/
def headerLength (w : Word) : Nat := (w.extractLsb' 0 8).toNat

/-- The words that an assembly with this header needs (R164): two for a header declaring more than 64. -/
def wordsNeeded (w : Word) : Nat :=
  if 64 < headerLength w then 2 else 2 + (headerLength w + 1) / 2

/-- The request that complete words spell (R164, 11.1). -/
def wordsRequest : List Word → Request
  | header :: tag :: params =>
    { kind := header.extractLsb' 8 8, plen := headerLength header, tag := tag.extractLsb' 0 8
      params := (unpackWords params).take (headerLength header) }
  | _ => { kind := 0, plen := 0, tag := 0, params := [] }

/-- The assembly after a word: complete, or still partial (R164). -/
def State.assemble (s : State) (ws : List Word) : State :=
  if wordsNeeded (ws.headD 0) ≤ ws.length then
    ({ s with game := { s.game with assembly := none } } : State).enqueue .game (wordsRequest ws)
  else { s with game := { s.game with assembly := some ws } }

/-- REQ_WRITE (R164). -/
def execReqWrite (w : Word) (s : State) : Host.Outcome State Fault Refusal :=
  if s.powered then
    match s.game.assembly with
    | some ws => .next (s.assemble (ws ++ [w]))
    | none =>
      if 0 < s.game.space then .next (s.assemble [w])
      else .next { s with game := { s.game with overflow := true } }
  else .next s

/-- A read of REQ returns 0 (R164). spec/opcode_table.json has no row for it, so no command stands for it (log
entry 36). -/
def State.readReq (s : State) : State := if s.powered then { s with busData := 0 } else s

/-- The next word of a message at a read position; 0 past its end. -/
def wordAt (ws : List Word) (pos : Nat) : Word := (ws[pos]?).getD 0

/-- The oldest reply leaves and its slot becomes free (R165, R166). -/
def Queues.dropReply (q : Queues) : Queues := { q with replies := q.replies.tail }

/-- The oldest notice leaves, and NOTICES_LOST may take its place (R165, R170). -/
def Queues.dropNotice (q : Queues) : Queues :=
  ({ q with notices := q.notices.tail } : Queues).afterDeparture

/-- RSP_READ (R165). -/
def execRspRead (s : State) : Host.Outcome State Fault Refusal :=
  if s.powered then
    match s.game.q.replies with
    | [] => .next { s with busData := 0 }
    | r :: _ =>
      let ws := r.2.words
      let s := { s with busData := wordAt ws s.game.replyPos }
      if s.game.replyPos + 1 < ws.length then
        .next { s with game := { s.game with replyPos := s.game.replyPos + 1 } }
      else
        .next (({ s with game := { s.game with q := s.game.q.dropReply, replyPos := 0 } } :
          State).drainAll .game)
  else .next s

/-- NOTE_READ (R165, R170). -/
def execNoteRead (s : State) : Host.Outcome State Fault Refusal :=
  if s.powered then
    match s.game.q.notices with
    | [] => .next { s with busData := 0 }
    | n :: _ =>
      let ws := n.2.words
      let s := { s with busData := wordAt ws s.game.noticePos }
      if s.game.noticePos + 1 < ws.length then
        .next { s with game := { s.game with noticePos := s.game.noticePos + 1 } }
      else .next { s with game := { s.game with q := s.game.q.dropNotice, noticePos := 0 } }
  else .next s

/-- The other status word (R173). -/
def StatusPointer.flip : StatusPointer → StatusPointer
  | .a => .b
  | .b => .a

/-- PORT_STATUS_READ (R173): the word at the pointer, which moves to the other. -/
def execPortStatusRead (s : State) : Host.Outcome State Fault Refusal :=
  if s.powered then
    .next { s with
      busData := match s.game.pointer with
        | .a => statusA s.game
        | .b => statusB s.game s.bl.phase
      game := { s.game with pointer := s.game.pointer.flip } }
  else .next s

/-- The effect of a write of PORT STATUS (R164, R173): its actions are independent, and the pointer goes
to A. -/
def GamePort.writeStatus (p : GamePort) (w : Word) : GamePort :=
  { p with
    assembly := if w.getLsbD 0 then none else p.assembly
    overflow := if w.getLsbD 1 then false else p.overflow
    attention := if w.getLsbD 2 then w.getLsbD 3 else p.attention
    pointer := .a }

/-- A write of PORT STATUS reaches a part whose console domain runs. -/
def State.writeStatus (s : State) (w : Word) : State :=
  if s.powered then { s with game := s.game.writeStatus w } else s

/-- PORT_STATUS_WRITE (R173). -/
def execPortStatusWrite (w : Word) (s : State) : Host.Outcome State Fault Refusal :=
  .next (s.writeStatus w)

/-- DISCARD_ASSEMBLY (R164): a write of PORT STATUS with bit 0 set. -/
def execDiscardAssembly (s : State) : Host.Outcome State Fault Refusal := .next (s.writeStatus 0x0001)

/-- CLEAR_OVERFLOW (R164): a write of PORT STATUS with bit 1 set. -/
def execClearOverflow (s : State) : Host.Outcome State Fault Refusal := .next (s.writeStatus 0x0002)

/-- WRITE_ATTENTION_ENABLE (R164): a write of PORT STATUS with bit 2 set, and bit 3 the value. -/
def execWriteAttentionEnable (on : Bool) (s : State) : Host.Outcome State Fault Refusal :=
  .next (s.writeStatus (if on then 0x000C else 0x0004))

/-- REGISTER_WRITE_NO_EFFECT (R165): a write of RSP or NOTE has no effect. -/
def execRegisterWriteNoEffect (_ : ReadOnlyLoc) (_ : Word) (s : State) :
    Host.Outcome State Fault Refusal := .next s

/-! ## The system link port (10.3, R166) -/

/-- The bytes after the start marker that a frame has, from those received so far: type, length, payload
and check; three until the length byte is there. -/
def frameEnd : List Byte → Nat
  | _ :: len :: _ => len.toNat + 3
  | _ => 3

/-- A received frame is bad (10.3). -/
def frameBad (bytes : List Byte) : Bool :=
  let len := field bytes 1 1
  bytes.headD 0 != requestType || decide (len < 4) || decide (68 < len)
    || crc8 (bytes.take (len + 2)) != (bytes[len + 2]?).getD 0

/-- The request that a good frame's payload holds (11.2). -/
def frameRequest (bytes : List Byte) : Request :=
  let p := (bytes.drop 2).take (field bytes 1 1)
  { kind := p.headD 0, plen := field p 1 1, tag := (p[2]?).getD 0, params := p.drop 4 }

/-- A frame has been received to its end (10.3): dropped for want of ready, dropped as bad, or good. -/
def State.frameComplete (s : State) (ready : Bool) (bytes : List Byte) : State :=
  let s := { s with sys := { s.sys with rx := .idle } }
  if !ready then { s with sys := { s.sys with unready := min maxCount (s.sys.unready + 1) } }
  else if frameBad bytes then { s with sys := { s.sys with bad := min maxCount (s.sys.bad + 1) } }
  else s.enqueue .system (frameRequest bytes)

/-- A byte comes in on the link (10.3). -/
def State.linkByte (s : State) (b : Byte) : State :=
  match s.sys.rx with
  | .idle =>
    if b = frameMarker then { s with sys := { s.sys with rx := .frame s.readyLine [] } } else s
  | .frame ready bytes =>
    let bytes := bytes ++ [b]
    if frameEnd bytes ≤ bytes.length then s.frameComplete ready bytes
    else { s with sys := { s.sys with rx := .frame ready bytes } }

/-- The frame has been sent to its check byte: its reply or notice leaves its place, and a reply slot freed
lets waiting requests be handed over (R166, R168, R170). -/
def State.frameSent (s : State) : State :=
  let out := { s with linkOut := s.oldestFrame }
  if s.sys.q.noticeFirst then { out with sys := { s.sys with q := s.sys.q.dropNotice, sent := 0 } }
  else
    ({ out with sys := { s.sys with q := s.sys.q.dropReply, sent := 0 } } : State).drainAll .system

/-- The link carries one byte of the frame being sent, or begins a frame (R166). -/
def State.sendByte (s : State) : State :=
  if s.sys.sent + 1 < s.oldestFrame.length then { s with sys := { s.sys with sent := s.sys.sent + 1 } }
  else s.frameSent

/-- The link is clocked for one byte, in both directions at once (10.3). Where a reply or notice waits a byte of the
frame being sent goes out, or the first byte of the oldest one's frame (R166); and a byte comes in. That the bytes of
the two directions end together and the one going out counts first is a choice (DESIGN CHOICE, log entry 48). -/
def State.clockByte (s : State) (b : Byte) : State :=
  (if s.systemAttention then s.sendByte else s).linkByte b

/-- REQUEST_FRAME (10.3): the bytes of a frame come in one after another, and what waits to be sent goes out
meanwhile (R166). -/
def execRequestFrame (bytes : List Byte) (s : State) : Host.Outcome State Fault Refusal :=
  if s.powered then .next (bytes.foldl State.clockByte s) else .next s

/-- SEND_FRAME (R166): the link carries what is left of the frame being sent, or else the whole frame of the
oldest reply or notice (log entry 17). No byte comes in with it (log entry 48). -/
def execSendFrame (s : State) : Host.Outcome State Fault Refusal :=
  if s.systemAttention then .next s.frameSent else .next s

/-- BAD_REQUEST (R169): a malformed request arrives whole at its master's port. -/
def execBadRequest (m : Master) (r : Request) (s : State) : Host.Outcome State Fault Refusal :=
  if s.powered then .next (s.arriveRaw m r) else .next s

end Sys2Proof.Machine
end

