-- ==== Sys2Proof/Machine/Requests.lean ====
section
/-! DEFINITION. The meanings of the 34 request commands: each is its request arriving whole at its master's
port (log entry 3), from where R168 hands it to the job that carries it out. -/

namespace Sys2Proof.Machine

/-- VOICE_START (R5 to R10, R52). -/
def execVoiceStart (m : Master) (tag : Byte) (p : VoiceStart) (s : State) :
    Host.Outcome State Fault Refusal :=
  receive m tag (.voiceStart p) s

/-- VOICE_SET (R4, R16). -/
def execVoiceSet (m : Master) (tag : Byte) (p : VoiceSet) (s : State) :
    Host.Outcome State Fault Refusal :=
  receive m tag (.voiceSet p) s

/-- VOICE_RELEASE (R4, R13). -/
def execVoiceRelease (m : Master) (tag : Byte) (handle : Byte) (s : State) :
    Host.Outcome State Fault Refusal :=
  receive m tag (.voiceRelease handle) s

/-- VOICE_STOP (R4, R15). -/
def execVoiceStop (m : Master) (tag : Byte) (handle : Byte) (s : State) :
    Host.Outcome State Fault Refusal :=
  receive m tag (.voiceStop handle) s

/-- VOICE_QUERY (R19). -/
def execVoiceQuery (m : Master) (tag : Byte) (handle : Byte) (s : State) :
    Host.Outcome State Fault Refusal :=
  receive m tag (.voiceQuery handle) s

/-- MIX_LEVEL (R37). -/
def execMixLevel (m : Master) (tag : Byte) (level : Option Word) (clear : Bool) (s : State) :
    Host.Outcome State Fault Refusal :=
  receive m tag (.mixLevel level clear) s

/-- DUCK_SET (R38). -/
def execDuckSet (m : Master) (tag : Byte) (factor : Word) (s : State) :
    Host.Outcome State Fault Refusal :=
  receive m tag (.duckSet factor) s

/-- RUMBLE_ENABLE (R69). -/
def execRumbleEnable (m : Master) (tag : Byte) (on : Bool) (s : State) :
    Host.Outcome State Fault Refusal :=
  receive m tag (.rumbleEnable on) s

/-- RUMBLE_STRENGTH (R70). -/
def execRumbleStrength (m : Master) (tag : Byte) (strength : Word) (s : State) :
    Host.Outcome State Fault Refusal :=
  receive m tag (.rumbleStrength strength) s

/-- RUMBLE_RESUME (R68). -/
def execRumbleResume (m : Master) (tag : Byte) (s : State) :
    Host.Outcome State Fault Refusal :=
  receive m tag .rumbleResume s

/-- RUMBLE_STATUS (R72). -/
def execRumbleStatus (m : Master) (tag : Byte) (s : State) :
    Host.Outcome State Fault Refusal :=
  receive m tag .rumbleStatus s

/-- CLOCK_READ (R85). -/
def execClockRead (m : Master) (tag : Byte) (s : State) :
    Host.Outcome State Fault Refusal :=
  receive m tag .clockRead s

/-- CLOCK_SET (R86, R87). -/
def execClockSet (m : Master) (tag : Byte) (fields : ClockFields) (s : State) :
    Host.Outcome State Fault Refusal :=
  receive m tag (.clockSet fields) s

/-- ZONE_SET (R88). -/
def execZoneSet (m : Master) (tag : Byte) (zone : Byte) (s : State) :
    Host.Outcome State Fault Refusal :=
  receive m tag (.zoneSet zone) s

/-- TRIM_SET (R89). -/
def execTrimSet (m : Master) (tag : Byte) (trim : Word) (s : State) :
    Host.Outcome State Fault Refusal :=
  receive m tag (.trimSet trim) s

/-- RATE_CHECK (R90). -/
def execRateCheck (m : Master) (tag : Byte) (edges : Word) (s : State) :
    Host.Outcome State Fault Refusal :=
  receive m tag (.rateCheck edges) s

/-- STORE_INFO (R110). -/
def execStoreInfo (m : Master) (tag : Byte) (s : State) :
    Host.Outcome State Fault Refusal :=
  receive m tag .storeInfo s

/-- SLOT_INFO (R111). -/
def execSlotInfo (m : Master) (tag : Byte) (slot : Byte) (s : State) :
    Host.Outcome State Fault Refusal :=
  receive m tag (.slotInfo slot) s

/-- SAVE_OPEN (R115). -/
def execSaveOpen (m : Master) (tag : Byte) (slot : Byte) (length : Word) (s : State) :
    Host.Outcome State Fault Refusal :=
  receive m tag (.saveOpen slot length) s

/-- SAVE_DATA (R116). -/
def execSaveData (m : Master) (tag : Byte) (bytes : List Byte) (s : State) :
    Host.Outcome State Fault Refusal :=
  receive m tag (.saveData bytes) s

/-- SAVE_COMMIT (R117). -/
def execSaveCommit (m : Master) (tag : Byte) (s : State) :
    Host.Outcome State Fault Refusal :=
  receive m tag .saveCommit s

/-- SAVE_ABORT (R118). -/
def execSaveAbort (m : Master) (tag : Byte) (s : State) :
    Host.Outcome State Fault Refusal :=
  receive m tag .saveAbort s

/-- LOAD_OPEN (R128). -/
def execLoadOpen (m : Master) (tag : Byte) (slot : Byte) (s : State) :
    Host.Outcome State Fault Refusal :=
  receive m tag (.loadOpen slot) s

/-- LOAD_DATA (R129). -/
def execLoadData (m : Master) (tag : Byte) (count : Byte) (s : State) :
    Host.Outcome State Fault Refusal :=
  receive m tag (.loadData count) s

/-- LOAD_CLOSE (R130). -/
def execLoadClose (m : Master) (tag : Byte) (s : State) :
    Host.Outcome State Fault Refusal :=
  receive m tag .loadClose s

/-- SLOT_ERASE (R123). -/
def execSlotErase (m : Master) (tag : Byte) (slot : Byte) (s : State) :
    Host.Outcome State Fault Refusal :=
  receive m tag (.slotErase slot) s

/-- SLOT_COPY (R126). -/
def execSlotCopy (m : Master) (tag : Byte) (source destination : Byte) (s : State) :
    Host.Outcome State Fault Refusal :=
  receive m tag (.slotCopy source destination) s

/-- SLOT_LOCK (R124). -/
def execSlotLock (m : Master) (tag : Byte) (slot : Byte) (on : Bool) (s : State) :
    Host.Outcome State Fault Refusal :=
  receive m tag (.slotLock slot on) s

/-- STORE_VERIFY (R131, R132). -/
def execStoreVerify (m : Master) (tag : Byte) (scope slot : Byte) (s : State) :
    Host.Outcome State Fault Refusal :=
  receive m tag (.storeVerify scope slot) s

/-- FAULT_READ (R146). -/
def execFaultRead (m : Master) (tag : Byte) (index : Byte) (s : State) :
    Host.Outcome State Fault Refusal :=
  receive m tag (.faultRead index) s

/-- FAULT_CLEAR_INDEX (R147). -/
def execFaultClearIndex (m : Master) (tag : Byte) (index : Byte) (s : State) :
    Host.Outcome State Fault Refusal :=
  receive m tag (.faultClearIndex index) s

/-- FAULT_CLEAR_ALL_MINE (R147). -/
def execFaultClearAllMine (m : Master) (tag : Byte) (s : State) :
    Host.Outcome State Fault Refusal :=
  receive m tag .faultClearAllMine s

/-- FAULT_CLEAR_OVERFLOW (R148). -/
def execFaultClearOverflow (m : Master) (tag : Byte) (s : State) :
    Host.Outcome State Fault Refusal :=
  receive m tag .faultClearOverflow s

/-- PART_INFO (R172). -/
def execPartInfo (m : Master) (tag : Byte) (clearCounts : Bool) (s : State) :
    Host.Outcome State Fault Refusal :=
  receive m tag (.partInfo clearCounts) s

end Sys2Proof.Machine
end

