-- ==== Sys2Proof/Machine/Dispatch.lean ====
section
/-! DEFINITION. One arm per command, each one call of its meaning. -/

namespace Sys2Proof.Machine

def exec (i : Instr) (s : State) : Host.Outcome State Fault Refusal :=
  match i with
  | .voiceStart m tag p => Sys2Proof.Machine.execVoiceStart m tag p s
  | .voiceSet m tag p => Sys2Proof.Machine.execVoiceSet m tag p s
  | .voiceRelease m tag handle => Sys2Proof.Machine.execVoiceRelease m tag handle s
  | .voiceStop m tag handle => Sys2Proof.Machine.execVoiceStop m tag handle s
  | .voiceQuery m tag handle => Sys2Proof.Machine.execVoiceQuery m tag handle s
  | .mixLevel m tag level clear => Sys2Proof.Machine.execMixLevel m tag level clear s
  | .duckSet m tag factor => Sys2Proof.Machine.execDuckSet m tag factor s
  | .rumbleEnable m tag on => Sys2Proof.Machine.execRumbleEnable m tag on s
  | .rumbleStrength m tag strength => Sys2Proof.Machine.execRumbleStrength m tag strength s
  | .rumbleResume m tag => Sys2Proof.Machine.execRumbleResume m tag s
  | .rumbleStatus m tag => Sys2Proof.Machine.execRumbleStatus m tag s
  | .clockRead m tag => Sys2Proof.Machine.execClockRead m tag s
  | .clockSet m tag fields => Sys2Proof.Machine.execClockSet m tag fields s
  | .zoneSet m tag zone => Sys2Proof.Machine.execZoneSet m tag zone s
  | .trimSet m tag trim => Sys2Proof.Machine.execTrimSet m tag trim s
  | .rateCheck m tag edges => Sys2Proof.Machine.execRateCheck m tag edges s
  | .storeInfo m tag => Sys2Proof.Machine.execStoreInfo m tag s
  | .slotInfo m tag slot => Sys2Proof.Machine.execSlotInfo m tag slot s
  | .saveOpen m tag slot length => Sys2Proof.Machine.execSaveOpen m tag slot length s
  | .saveData m tag bytes => Sys2Proof.Machine.execSaveData m tag bytes s
  | .saveCommit m tag => Sys2Proof.Machine.execSaveCommit m tag s
  | .saveAbort m tag => Sys2Proof.Machine.execSaveAbort m tag s
  | .loadOpen m tag slot => Sys2Proof.Machine.execLoadOpen m tag slot s
  | .loadData m tag count => Sys2Proof.Machine.execLoadData m tag count s
  | .loadClose m tag => Sys2Proof.Machine.execLoadClose m tag s
  | .slotErase m tag slot => Sys2Proof.Machine.execSlotErase m tag slot s
  | .slotCopy m tag source destination => Sys2Proof.Machine.execSlotCopy m tag source destination s
  | .slotLock m tag slot on => Sys2Proof.Machine.execSlotLock m tag slot on s
  | .storeVerify m tag scope slot => Sys2Proof.Machine.execStoreVerify m tag scope slot s
  | .faultRead m tag index => Sys2Proof.Machine.execFaultRead m tag index s
  | .faultClearIndex m tag index => Sys2Proof.Machine.execFaultClearIndex m tag index s
  | .faultClearAllMine m tag => Sys2Proof.Machine.execFaultClearAllMine m tag s
  | .faultClearOverflow m tag => Sys2Proof.Machine.execFaultClearOverflow m tag s
  | .partInfo m tag clearCounts => Sys2Proof.Machine.execPartInfo m tag clearCounts s
  | .badRequest m r => Sys2Proof.Machine.execBadRequest m r s
  | .reqWrite w => Sys2Proof.Machine.execReqWrite w s
  | .rspRead => Sys2Proof.Machine.execRspRead s
  | .noteRead => Sys2Proof.Machine.execNoteRead s
  | .portStatusRead => Sys2Proof.Machine.execPortStatusRead s
  | .discardAssembly => Sys2Proof.Machine.execDiscardAssembly s
  | .clearOverflow => Sys2Proof.Machine.execClearOverflow s
  | .writeAttentionEnable on => Sys2Proof.Machine.execWriteAttentionEnable on s
  | .registerWriteNoEffect loc w => Sys2Proof.Machine.execRegisterWriteNoEffect loc w s
  | .requestFrame bytes => Sys2Proof.Machine.execRequestFrame bytes s
  | .sendFrame => Sys2Proof.Machine.execSendFrame s
  | .audioFrame => Sys2Proof.Machine.execAudioFrame s
  | .mixerTick => Sys2Proof.Machine.execMixerTick s
  | .voiceStarve v => Sys2Proof.Machine.execVoiceStarve v s
  | .brakeEnd => Sys2Proof.Machine.execBrakeEnd s
  | .carrierPeriodStart => Sys2Proof.Machine.execCarrierPeriodStart s
  | .pwmPulseEnd => Sys2Proof.Machine.execPwmPulseEnd s
  | .deadTimeExpiry leg => Sys2Proof.Machine.execDeadTimeExpiry leg s
  | .staleTimerExpiry => Sys2Proof.Machine.execStaleTimerExpiry s
  | .cutoffInputActive => Sys2Proof.Machine.execCutoffInputActive s
  | .cutoffInputInactive => Sys2Proof.Machine.execCutoffInputInactive s
  | .secondBoundary weak => Sys2Proof.Machine.execSecondBoundary weak s
  | .minuteBoundary weak => Sys2Proof.Machine.execMinuteBoundary weak s
  | .frameSyncEdge => Sys2Proof.Machine.execFrameSyncEdge s
  | .rateCheckTimeout => Sys2Proof.Machine.execRateCheckTimeout s
  | .fetchBurstComplete => Sys2Proof.Machine.execFetchBurstComplete s
  | .configBurstComplete => Sys2Proof.Machine.execConfigBurstComplete s
  | .mountReadComplete => Sys2Proof.Machine.execMountReadComplete s
  | .dataWriteComplete => Sys2Proof.Machine.execDataWriteComplete s
  | .pageWriteBurstComplete => Sys2Proof.Machine.execPageWriteBurstComplete s
  | .copyReadComplete => Sys2Proof.Machine.execCopyReadComplete s
  | .copyWriteComplete => Sys2Proof.Machine.execCopyWriteComplete s
  | .loadReadComplete => Sys2Proof.Machine.execLoadReadComplete s
  | .verifyReadComplete => Sys2Proof.Machine.execVerifyReadComplete s
  | .supplyFailing batteryAble => Sys2Proof.Machine.execSupplyFailing batteryAble s
  | .consolePowerUp weak => Sys2Proof.Machine.execConsolePowerUp weak s
  | .consoleReset => Sys2Proof.Machine.execConsoleReset s
  | .resetRelease => Sys2Proof.Machine.execResetRelease s
  | .batteryLoss => Sys2Proof.Machine.execBatteryLoss s
  | .batteryDomainRestart => Sys2Proof.Machine.execBatteryDomainRestart s
  | .sramContentsLost => Sys2Proof.Machine.execSramContentsLost s
  | .portStatusWrite w => Sys2Proof.Machine.execPortStatusWrite w s

end Sys2Proof.Machine
end

