-- ==== Sys2Proof/Machine/Step.lean ====
section
/-! DEFINITION. The step: the command at the front of the queue is carried out; on an empty queue one
cartridge clock count passes, with a crystal tick or without, and with a byte on the link or without (log
entries 4 and 17). -/

namespace Sys2Proof.Machine

/-- Whether a crystal tick falls in this idle step is a free value; it counts while the battery domain has a
supply (log entries 4 and 27). -/
def State.idleCrystal (s : State) : State :=
  if s.crystalRuns then
    let (k, s) := s.draw
    if Config.crystalTickFalls k then State.passTicks 2 1 s else s
  else s

/-- One cartridge clock count passes for the driver (log entries 4 and 34). -/
def State.idleClock (s : State) : State := if s.clockRuns then s.runClock 1 else s

/-- Whether the link carries a byte of the frame that waits is a free value (R166; log entry 17); no byte comes in
with it (log entry 48). -/
def State.idleLink (s : State) : State :=
  if s.systemAttention then
    let (k, s) := s.draw
    if Config.linkByteMoves k then s.sendByte else s
  else s

/-- What a step does on an empty queue. -/
def State.idle (s : State) : State := s.idleClock.idleCrystal.idleLink

/-- The command at the front of the queue is carried out with the queue's rest; an empty queue idles. -/
def step (s : State) : Host.Outcome State Fault Refusal :=
  match s.pending with
  | [] => .next s.idle
  | c :: rest => exec c { s with pending := rest }

/-- The command that a table word spells goes to the front of the queue; a word that spells none changes
nothing. -/
def State.withFetchWord (s : State) (nbits w : Nat) : State :=
  match decodeTableWord nbits w with
  | none => s
  | some c => { s with pending := c :: s.pending }

end Sys2Proof.Machine
end

