-- ==== Sys2Proof/Safety.lean ====
section
/-! DEFINITION. What statements about the machine are said in: when a port takes a request at once, what a
reply adds to a state, the commands that carry requests, words and frames fed in one after another, and the
invariants that make a run safe. -/

namespace Sys2Proof.Machine

/-! ## Requests that are taken at once -/

/-- A request of this master that arrives now is handed over at once: the console domain runs, no request
waits, a reply slot is free (R168). -/
def State.portFree (s : State) (m : Master) : Prop :=
  s.powered = true ∧ (s.queues m).requests = [] ∧ (s.queues m).slotFree = true

/-- A request of this master and family that arrives now is carried out at once (R160, R168). -/
def State.takes (s : State) (m : Master) (f : Family) : Prop :=
  s.portFree m ∧ s.familyReady f = true

/-- A state with one more reply placed at a master's port, and nothing else changed. -/
def State.withReply (s : State) (m : Master) (kind tag : Byte) (code : Code) (result : List Byte) :
    State :=
  let q := s.queues m
  s.setQueues m
    { q with replies := q.replies ++ [(q.placed, { kind := kind, tag := tag, code := code,
                                                   result := result })]
             placed := q.placed + 1 }

/-- The handle names a voice in use, of its generation, that this master owns (R4). -/
def State.ownsHandle (s : State) (m : Master) (h : Byte) : Prop :=
  s.voices[handleVoice h].gen = handleGen h ∧ s.voices[handleVoice h].state ≠ .free
    ∧ s.voices[handleVoice h].owner = m

/-- The command that carries a request; an unnamed FAULT_CLEAR selector has no row of its own. -/
def requestCommand (m : Master) (tag : Byte) : Req → Option Instr
  | .voiceStart p => some (.voiceStart m tag p)
  | .voiceSet p => some (.voiceSet m tag p)
  | .voiceRelease h => some (.voiceRelease m tag h)
  | .voiceStop h => some (.voiceStop m tag h)
  | .voiceQuery h => some (.voiceQuery m tag h)
  | .mixLevel l c => some (.mixLevel m tag l c)
  | .duckSet f => some (.duckSet m tag f)
  | .rumbleEnable on => some (.rumbleEnable m tag on)
  | .rumbleStrength x => some (.rumbleStrength m tag x)
  | .rumbleResume => some (.rumbleResume m tag)
  | .rumbleStatus => some (.rumbleStatus m tag)
  | .clockRead => some (.clockRead m tag)
  | .clockSet d => some (.clockSet m tag d)
  | .zoneSet z => some (.zoneSet m tag z)
  | .trimSet t => some (.trimSet m tag t)
  | .rateCheck n => some (.rateCheck m tag n)
  | .storeInfo => some (.storeInfo m tag)
  | .slotInfo b => some (.slotInfo m tag b)
  | .saveOpen b l => some (.saveOpen m tag b l)
  | .saveData bytes => some (.saveData m tag bytes)
  | .saveCommit => some (.saveCommit m tag)
  | .saveAbort => some (.saveAbort m tag)
  | .loadOpen b => some (.loadOpen m tag b)
  | .loadData c => some (.loadData m tag c)
  | .loadClose => some (.loadClose m tag)
  | .slotErase b => some (.slotErase m tag b)
  | .slotCopy x y => some (.slotCopy m tag x y)
  | .slotLock b on => some (.slotLock m tag b on)
  | .storeVerify x y => some (.storeVerify m tag x y)
  | .faultRead i => some (.faultRead m tag i)
  | .faultClearIndex i => some (.faultClearIndex m tag i)
  | .faultClearAllMine => some (.faultClearAllMine m tag)
  | .faultClearOverflow => some (.faultClearOverflow m tag)
  | .faultClearOther _ _ => none
  | .partInfo c => some (.partInfo m tag c)

/-- Words written to REQ one after another. -/
def feedWords : List Word → State → Host.Outcome State Fault Refusal
  | [], s => .next s
  | w :: ws, s =>
    match exec (.reqWrite w) s with
    | .next t => feedWords ws t
    | .fault f => .fault f
    | .refused r => .refused r

/-- The words of a request on the game bus (11.1). -/
def requestWords (tag : Byte) (q : Req) : List Word := messageWords q.kind tag 0 q.encodeParams

/-- The frame of a request on the system link (11.2). -/
def requestFrameBytes (tag : Byte) (q : Req) : List Byte :=
  frameBytes requestType (payload q.kind tag 0 q.encodeParams)

/-- The frame being sent, or the one that is begun next, does not end within the next k bytes on the link; with
nothing waiting there is none (R166). -/
def State.frameOutlasts (s : State) (k : Nat) : Prop :=
  s.systemAttention = true → s.sys.sent + k < s.oldestFrame.length

/-- The state after k bytes on the link within which no frame ends: they go out of a frame that waits (R166). -/
def State.linkMoved (s : State) (k : Nat) : State :=
  if s.systemAttention then { s with sys := { s.sys with sent := s.sys.sent + k } } else s

/-- The command that completes a store operation with this owner (R50). -/
def completionOf : OpOwner → Instr
  | .mountPage _ _ => .mountReadComplete
  | .mountScan => .mountReadComplete
  | .data _ _ _ => .dataWriteComplete
  | .page _ => .pageWriteBurstComplete
  | .copyRead => .copyReadComplete
  | .copyWrite => .copyWriteComplete
  | .load _ => .loadReadComplete
  | .verify => .verifyReadComplete

/-- A store operation is in flight with its write gate open and its bytes within the SRAM, so that its
completion takes place. -/
def State.storeInFlight (s : State) (op : StoreOp) (discarded : Bool) : Prop :=
  s.powered = true ∧ s.bd.gateOpen = true ∧ s.pma.inFlight = some (.store op discarded)
    ∧ op.addr + 32 ≤ 131072

/-- The bus free and the operation's bytes, if it is a write, in SRAM; nothing else changed (R50). -/
def State.burstDone (s : State) (op : StoreOp) : State :=
  { s with
    pma := { s.pma with inFlight := none }
    sram := match op.bytes with
      | some bytes => s.sram.writeBytes sramBlank op.addr bytes
      | none => s.sram }

/-- The request of this master, kind and tag is answered with NO_TRANSACTION. -/
def noTransaction (kind tag : Byte) : Reply :=
  { kind := kind, tag := tag, code := .noTransaction, result := [] }

/-! ## Directories -/

/-- A slot entry that a directory page can hold (R94, R95, R103): fields within their widths, and a chain of as
many blocks as the length takes, or fewer in a DAMAGED slot. -/
def SlotEntry.storable (e : SlotEntry) : Prop :=
  e.serial ≤ 65535 ∧ ∀ b, e.body = some b →
    b.length ≤ 65535 ∧ b.seconds ≤ 4294967295 ∧ b.day ≤ 65535
    ∧ (b.writer = .copy → ∃ x, b.copiedFrom = some x ∧ x < 32)
    ∧ (b.writer ≠ .copy → b.copiedFrom = none)
    ∧ (b.damaged = false → 1 ≤ b.length ∧ b.length ≤ 32768 ∧ b.chain.length = (b.length + 255) / 256)
    ∧ (b.damaged = true → b.chain.length ≤ (b.length + 255) / 256 ∧ (32768 < b.length → b.chain = []))

/-- A directory that a page can hold (R94, R97, R106): each slot storable, no block in two places. -/
def Directory.storable (d : Directory) : Prop :=
  1 ≤ d.gen ∧ d.gen ≤ 4294967295 ∧ d.dhw ≤ 65535 ∧ (∀ slot : Fin 32, d.slots[slot].storable)
    ∧ (d.slots.toList.flatMap SlotEntry.chain).Nodup
    ∧ ∀ b ∈ d.slots.toList.flatMap SlotEntry.chain, 16 ≤ b ∧ b ≤ 511

/-! ## Voices -/

/-- The record that a VOICE_START in range gives its voice (R3, R5, R10). -/
def allocatedRecord (m : Master) (p : VoiceStart) (gen : BitVec 4) : Voice :=
  { state := .keyed
    phase := none
    gen := gen + 1
    owner := m
    dest := if p.dest = 0 then .speaker else .motor
    format := if p.format = 0 then .pcm8 else .pcm16
    source := p.source.toNat
    len := p.length.toNat
    loop := p.loop.map (·.toNat)
    n := 0
    f := 0
    step := max 0x100 (min 0x40000 p.step.toNat)
    volume := p.volume.toNat
    pan := p.pan.toNat
    attack := min 32767 p.attack.toNat
    decay := min 32767 p.decay.toNat
    sustain := p.sustain.toNat
    release := max 1 (min 32767 p.release.toNat)
    level := 0
    priority := p.priority.toNat
    notify := p.notify
    pendingStep := none
    pendingVolume := none
    pendingPan := none
    starve := 0
    last := ⟨0, 0, 0⟩
    endReason := none }

/-- The fetch channel set up for that use, its burst in flight and discard mark as they stand (R40). -/
def setUpChannel (p : VoiceStart) (inFlight discard : Bool) : Channel :=
  { state := .priming
    bps := p.format.toNat + 1
    next := p.source.toNat
    toEnd := p.length.toNat * (p.format.toNat + 1)
    loopAddr := p.loop.map fun l => p.source.toNat + l.toNat * (p.format.toNat + 1)
    fifo := []
    skip := 0
    inFlight := inFlight
    discard := discard }

/-- A candidate for stealing, with every voice in use (R7): the game processor takes its own voices of lower
priority; the system processor below its guarantee takes any game voice, and otherwise any voice of lower
priority. -/
def mayTake (s : State) (m : Master) (priority : Nat) (v : Fin 16) : Prop :=
  match m with
  | .game => s.voices[v].owner = .game ∧ s.voices[v].priority < priority
  | .system =>
    if s.ownedCount .system < s.bl.cfg.guarantee then s.voices[v].owner = .game
    else s.voices[v].priority < priority

/-! ## Invariants -/

/-- A leg is safe: its gates are not on together, and a gate that is on is one that its guard allows
(R58). -/
def LegState.safe (l : LegState) : Prop :=
  ¬(l.high = true ∧ l.low = true) ∧ (l.high = true → l.guard.allows .high = true)
    ∧ (l.low = true → l.guard.allows .low = true)

/-- Until the configuration is loaded the driver asks for no gate, none is on, and no guard counts (R55). -/
def Rumble.unloaded (r : Rumble) : Prop :=
  r.pending = none ∧ (r.driven = .coast ∨ r.driven = .cutoff)
    ∧ ∀ leg : Leg, (r.leg leg).high = false ∧ (r.leg leg).low = false ∧ (r.leg leg).guard.count = 0

/-- The bridge is safe: neither leg conducts straight through, and a guard counts Td at most (R58). Td changes
only when the configuration is loaded, which a configuration burst in flight does in LOADING alone. -/
def State.bridgeSafe (s : State) : Prop :=
  s.rd.legA.safe ∧ s.rd.legB.safe
    ∧ (s.loaded = true → ∀ leg : Leg, (s.rd.leg leg).guard.count ≤ s.bl.cfg.td)
    ∧ (s.loaded = false → s.rd.unloaded)
    ∧ ∀ i, s.pma.inFlight = some (.boot i false) → s.bl.phase = .loading

/-- Both memories are in canonical form. -/
def State.memorySafe (s : State) : Prop := Memory.wf romBlank s.rom ∧ Memory.wf sramBlank s.sram

/-- The age list holds each voice in use once and no other, and no voice in use has starved three ticks
running (R2, R53). -/
def State.poolSafe (s : State) : Prop :=
  s.age.Nodup ∧ (∀ v, v ∈ s.age ↔ s.voices[v].inUse = true)
    ∧ ∀ v : Fin 16, s.voices[v].inUse = true → s.voices[v].starve ≤ 2

/-- The commit queue's entries whose replies are owed (R119, R122): those waiting, and the one whose page
write is in flight unless a console reset has cut it off. -/
def Store.entries (ss : Store) : List Entry :=
  ss.commits ++ (match ss.pageWrite with
    | none => []
    | some w => if w.orphan then [] else w.entry.toList)

/-- The replies that work still under way owes a master (R168): of a rate check, its SAVE_DATA requests not
completed, its commit queue entries, its copy not yet queued, its LOAD_DATA requests not answered, and its
places in the verifies. -/
def State.owed (s : State) (m : Master) : Nat :=
  (if m = .system ∧ s.gc.rate ≠ .idle then 1 else 0)
    + (s.unfinishedData m).length
    + (s.ss.entries.filter fun e => e.requester == m).length
    + (match s.ss.copy with
      | none => 0
      | some c => if c.queued = false ∧ c.requester = m then 1 else 0)
    + (match s.ss.cursor m with
      | none => 0
      | some c => c.loads.length)
    + (match s.ss.verify with
      | none => 0
      | some v => (v.requesters.filter fun r => r.1 == m).length)
    + (match s.ss.pendingVerify with
      | none => 0
      | some v => (v.requesters.filter fun r => r.1 == m).length)

/-- The queues hold no more than they have places for (R163): requests with the place an assembly holds,
notices, and the reply slots held and reserved, with a slot reserved for each reply that is owed (R168). -/
def State.queuesSafe (s : State) : Prop :=
  s.game.q.requests.length + s.game.held ≤ 8 ∧ s.game.q.notices.length ≤ 16
    ∧ s.sys.q.requests.length + s.sys.rx.held ≤ 8 ∧ s.sys.q.notices.length ≤ 16
    ∧ ∀ m : Master, (s.queues m).reserved + (s.queues m).replies.length ≤ 8
      ∧ s.owed m ≤ (s.queues m).reserved

/-- The blocks that the chains of the working directory and the reservations hold (R106). -/
def Store.heldBlocks (ss : Store) : List Nat :=
  ss.dir.slots.toList.flatMap SlotEntry.chain ++ txnBlocks ss.txnGame ++ txnBlocks ss.txnSystem
    ++ copyBlocks ss.copy

/-- A commit entry of a transaction belongs to its master's COMMITTING transaction, that of a copy to the
running copy, and neither has a second one; a transaction that is not OPEN is full (R113, R117, R119,
R127). -/
def Store.entriesSafe (ss : Store) : Prop :=
  (∀ m : Master, let own := ss.entries.filter fun e => e.kind == .txn && e.requester == m
    own.length ≤ 1 ∧ (own ≠ [] → ∃ t, ss.txn m = some t ∧ t.state = .committing))
  ∧ (let own := ss.entries.filter fun e => e.kind == .copy
    own.length ≤ 1 ∧ (own ≠ [] → ∃ c, ss.copy = some c ∧ c.queued = true))
  ∧ ∀ (m : Master) (t : Txn), ss.txn m = some t → t.state ≠ .opened → t.cursor = t.length

/-- The page write in flight, unless a console reset has cut it off, is not of the active page, and its image
gives its entry's slot the chain that the entry's work holds; the image of a format holds no chain (R98,
R101, R121). -/
def Store.pageSafe (ss : Store) (phase : StartPhase) : Prop :=
  ∀ w, ss.pageWrite = some w →
    if w.orphan then ss.state = .offline ∧ (phase = .held ∨ phase = .waiting)
    else ss.active ≠ some w.target ∧ match w.entry with
      | none => ss.state = .formatting ∧ ∀ slot : Fin 32, w.image.slots[slot].chain = []
      | some e => ss.state = .ready ∧ w.image.slots[e.slot].chain = match e.kind with
        | .erase => []
        | .lock _ => ss.dir.slots[e.slot].chain
        | .txn => txnBlocks (ss.txn e.requester)
        | .copy => copyBlocks ss.copy

/-- The page and place of a mount's page read. -/
def OpOwner.pageRead : OpOwner → Option (PageId × Nat)
  | .mountPage p i => some (p, i)
  | _ => none

/-- The page reads that a mount has still to make, the one in flight first. -/
def State.pageReads (s : State) : List (PageId × Nat) :=
  (s.pma.storeOp.toList ++ s.ss.ops).filterMap fun op => op.owner.pageRead

/-- The page reads of a whole mount (R100): page A's bursts, then page B's. -/
def allPageReads : List (PageId × Nat) :=
  (List.range 64).map (fun i => (.a, i)) ++ (List.range 64).map (fun i => (.b, i))

/-- The mount goes through its pages once and in order, with no page active until it has read them; work on
saves stands in READY alone; the store is OFFLINE until the configuration is loaded (R99, R100, R160). -/
def State.mountSafe (s : State) : Prop :=
  (∃ k, s.pageReads = allPageReads.drop k)
  ∧ (s.pageReads ≠ [] → s.ss.state = .mounting ∧ s.ss.active = none
      ∧ ∃ m, s.ss.mount = some m ∧ m.scan = none)
  ∧ (∀ m, s.ss.mount = some m → s.ss.state = .mounting ∨ s.ss.state = .formatting ∧ m.scan = none)
  ∧ (s.ss.state ≠ .ready → s.ss.txnGame = none ∧ s.ss.txnSystem = none ∧ s.ss.copy = none
      ∧ s.ss.commits = [])
  ∧ (s.ss.state = .offline → s.ss.active = none)
  ∧ (s.bl.phase ≠ .loaded → s.ss.state = .offline)
  ∧ ∀ i, s.pma.inFlight = some (.boot i false) → s.bl.phase = .loading

/-- The store is safe: no block stands twice in the chains and reservations, each is a data block (R106), and
the page write in flight is never of the active page (R98), with what these rest on. -/
def State.storeSafe (s : State) : Prop :=
  (s.ss.heldBlocks.Nodup ∧ ∀ b ∈ s.ss.heldBlocks, 16 ≤ b ∧ b ≤ 511)
    ∧ s.ss.entriesSafe ∧ s.ss.pageSafe s.bl.phase ∧ s.mountSafe

/-- The battery domain's items are in their ranges (R74), and with them the high-waters that the store may
hand back (R83). -/
def State.clockSafe (s : State) : Prop :=
  s.bd.sec ≤ 4294967295 ∧ s.bd.prescaler ≤ 32767 ∧ s.bd.hold ≤ 128 ∧ s.bd.minute ≤ 59
    ∧ (-128 ≤ s.bd.trim ∧ s.bd.trim ≤ 127)
    ∧ (∀ t, s.bd.pendingTrim = some t → -128 ≤ t ∧ t ≤ 127)
    ∧ (-48 ≤ s.bd.zone ∧ s.bd.zone ≤ 56) ∧ s.bd.dhw ≤ 65535 ∧ s.ss.dir.dhw ≤ 65535
    ∧ (∀ w, s.ss.pageWrite = some w → w.image.dhw ≤ 65535)

/-- The write gate is open exactly while the console supply is present (R155). -/
def State.gateSafe (s : State) : Prop := s.bd.gateOpen = s.powered

/-- The states in which a run is safe. -/
def State.safe (s : State) : Prop :=
  s.bridgeSafe ∧ s.memorySafe ∧ s.poolSafe ∧ s.queuesSafe ∧ s.clockSafe ∧ s.gateSafe ∧ s.storeSafe

end Sys2Proof.Machine
end

