-- ==== Sys2Proof/Certificates/Slice0/Obligations.lean ====
section
/-! DEFINITION. The statements for the provers. -/

open Sys2Proof Sys2Proof.Machine

/-! ## The step, the ports and the wire -/

/-- A step with a command at the front of the queue is exec of that command with the queue's rest
(the queue is the model's own, log entry 1). -/
def Obligations.StepRunsFront : Prop :=
  ∀ (c : Instr) (rest : List Instr) (s : State),
    step { s with pending := c :: rest } = exec c { s with pending := rest }

/-- What reset leaves: the battery domain after its restart (R74), and of each block every item at the value that
console power-up gives it: the voices (R20), the mixer (R21), the channels (R39), the arbiter (R47), the driver, gates
and guards among it (R55), the clock's console half (R77), the store (R99, R112), the fault log (R149), the ports with
no slot reserved (R163). Values that the spec does not give, of an IDLE channel's addresses, of a record that holds no
fault and of the configuration values in force before they are loaded, are log entry 11; the supply state, the levels
of pins and the model's own fields are log entry 1, the blank memories log entry 6. -/
def Obligations.ResetLeaves : Prop :=
  (State.reset.bd.sec = 0 ∧ State.reset.bd.prescaler = 0 ∧ State.reset.bd.hold = 0
    ∧ State.reset.bd.minute = 0 ∧ State.reset.bd.trim = 0 ∧ State.reset.bd.pendingTrim = none
    ∧ State.reset.bd.zone = 0 ∧ State.reset.bd.dhw = 0 ∧ State.reset.bd.valid = false
    ∧ State.reset.bd.marker = true ∧ State.reset.bd.gateOpen = false)
  ∧ (∀ v : Fin 16, State.reset.voices[v].state = .free ∧ State.reset.voices[v].gen = 0
      ∧ State.reset.voices[v].endReason = none ∧ State.reset.voices[v].level = 0
      ∧ State.reset.channels[v].state = .idle ∧ State.reset.channels[v].fifo = []
      ∧ State.reset.channels[v].discard = false)
  ∧ (State.reset.age = [] ∧ State.reset.mx.mg = 128 ∧ State.reset.mx.ms = 128
      ∧ State.reset.mx.dk = 256 ∧ State.reset.mx.clip = 0 ∧ State.reset.mx.frames = 0)
  ∧ (State.reset.pma.inFlight = none ∧ State.reset.pma.runCount = 0)
  ∧ (∀ i : Fin 8, State.reset.fl.records[i].valid = false)
  ∧ (State.reset.fl.w = 0 ∧ State.reset.fl.overflow = false ∧ State.reset.fl.lost = 0)
  ∧ (State.reset.ss.state = .offline ∧ State.reset.ss.active = none ∧ State.reset.ss.result = none
      ∧ State.reset.ss.headerNg = none)
  ∧ (∀ m, (State.reset.queues m).requests = [] ∧ (State.reset.queues m).replies = []
      ∧ (State.reset.queues m).notices = [] ∧ (State.reset.queues m).lost = 0)
  ∧ (State.reset.game.assembly = none ∧ State.reset.game.overflow = false
      ∧ State.reset.game.attention = false ∧ State.reset.game.pointer = .a
      ∧ State.reset.sys.bad = 0 ∧ State.reset.sys.unready = 0)
  ∧ State.reset.rd.state = .coast ∧ State.reset.rd.heat = 0 ∧ State.reset.rd.enabled = true
  ∧ State.reset.gc.dayEval = false ∧ State.reset.gc.rate = .idle
  ∧ (∀ v : Fin 16, State.reset.voices[v] =
    { state := .free, phase := none, gen := 0, owner := .game, dest := .speaker, format := .pcm8
      source := 0, len := 0, loop := none, n := 0, f := 0, step := 0, volume := 0, pan := 0
      attack := 0, decay := 0, sustain := 0, release := 0, level := 0, priority := 0, notify := false
      pendingStep := none, pendingVolume := none, pendingPan := none, starve := 0
      last := ⟨0, 0, 0⟩, endReason := none })
  ∧ (∀ v : Fin 16, State.reset.channels[v] =
    { state := .idle, bps := 1, next := 0, toEnd := 0, loopAddr := none, fifo := [], skip := 0
      inFlight := false, discard := false })
  ∧ State.reset.mx =
    { alg := 0, arg := 0, als := 0, ars := 0, am := 0, mg := 128, ms := 128, dk := 256, clip := 0
      frames := 0, motorMix := 0, frameMotor := 0, duckLast := false, marks := Vector.replicate 16 false
      nextL := 0, nextR := 0, outL := 0, outR := 0 }
  ∧ State.reset.rd =
    { state := .coast, duty := 0, drive := 0, target := .coast, lastDir := .none, brakeTimer := 0
      remembered := .coast, rememberedDuty := 0, pending := none, heat := 0, derated := false
      stale := false, staleTimer := 819200, enabled := true, strength := 3, carrier := 0
      legA := { high := false, low := false, guard := ⟨0, none⟩ }
      legB := { high := false, low := false, guard := ⟨0, none⟩ }
      cutoffInput := false, driven := .coast, drivenDuty := 0 }
  ∧ State.reset.gc =
    { dayEval := false, rate := .idle, target := 0, edges := 0, ticks := 0, gap := 0, tag := 0 }
  ∧ State.reset.ss =
    { state := .offline, active := none, result := none, headerNg := none
      dir := { gen := 0, dhw := 0
               slots := Vector.replicate 32 { serial := 0, locked := false, body := none } }
      mount := none, ops := [], txnGame := none, txnSystem := none, cursorGame := none
      cursorSystem := none, copy := none, verify := none, pendingVerify := none, commits := []
      pageWrite := none }
  ∧ (∀ i : Fin 8, State.reset.fl.records[i] =
    { valid := false, kind := .accessDenied, concerned := .game, subject := none, sec := 0, repeats := 1 })
  ∧ State.reset.bl =
    { phase := .loading, cfg := builtIn, source := .none, clamped := 0, granted := 0, bytes := [] }
  ∧ (∀ m, State.reset.queues m =
    { requests := [], reserved := 0, replies := [], notices := [], lost := 0, placed := 0 })
  ∧ (State.reset.game.replyPos = 0 ∧ State.reset.game.noticePos = 0 ∧ State.reset.sys.rx = .idle
    ∧ State.reset.sys.sent = 0)
  ∧ (State.reset.rom = [] ∧ State.reset.sram = [] ∧ State.reset.pending = [])

/-- The invariants of the statements below hold at reset. -/
def Obligations.ResetSafe : Prop := State.reset.safe

/-- Every request that the wire can spell is read back from its encoding, with every parameter at every value. The
encoding is the row of R174's request table: the kind, the parameter length, the parameters in order at their
widths, each multi-byte one with its least significant byte first. A request is malformed exactly when its length
differs from the bytes that came or is not one that its kind's row gives (R169). An on or yes parameter is so for
every byte but 0. The widths of the fields of replies and notices, the notices with their kinds and fields, the
values of the result codes, and the named values numbered in the order in which the spec lists them, with those
whose order is log entry 12 and the configuration source, whose order is log entry 44 (R174). -/
def Obligations.RequestCodec : Prop :=
  (∀ (tag : Byte) (q : Req), q.WellFormed → decodeRequest (q.encode tag) = some q)
  ∧ (∀ (tag : Byte) (q : Req),
    let word (w : Word) : List Byte := u16 w.toNat
    let quad (w : Quad) : List Byte := u32 w.toNat
    let row : Byte × Nat × List Byte := match q with
      | .voiceStart p => (0x01, 31, [p.dest, p.format] ++ quad p.source ++ quad p.length
          ++ optional 4 (p.loop.map quad) ++ quad p.step ++ [p.volume, p.pan] ++ word p.attack
          ++ word p.decay ++ word p.sustain ++ word p.release ++ [p.priority] ++ flag p.notify)
      | .voiceSet p => (0x02, 8, [p.handle] ++ u8 ((if p.step.isSome then 1 else 0)
          + (if p.volume.isSome then 2 else 0) + (if p.pan.isSome then 4 else 0))
          ++ quad (p.step.getD 0) ++ [p.volume.getD 0, p.pan.getD 0])
      | .voiceRelease h => (0x03, 1, [h])
      | .voiceStop h => (0x04, 1, [h])
      | .voiceQuery h => (0x05, 1, [h])
      | .mixLevel l c => (0x10, 3, u8 ((if l.isSome then 1 else 0) + (if c then 2 else 0))
          ++ word (l.getD 0))
      | .duckSet f => (0x11, 2, word f)
      | .rumbleEnable on => (0x18, 1, flag on)
      | .rumbleStrength x => (0x19, 2, word x)
      | .rumbleResume => (0x1A, 0, [])
      | .rumbleStatus => (0x1B, 0, [])
      | .clockRead => (0x20, 0, [])
      | .clockSet d => (0x21, 7, word d.year ++ [d.month, d.day, d.hour, d.minute, d.second])
      | .zoneSet z => (0x22, 1, [z])
      | .trimSet t => (0x23, 2, word t)
      | .rateCheck n => (0x24, 2, word n)
      | .storeInfo => (0x30, 0, [])
      | .slotInfo b => (0x31, 1, [b])
      | .saveOpen b l => (0x32, 3, [b] ++ word l)
      | .saveData bytes => (0x33, bytes.length, bytes)
      | .saveCommit => (0x34, 0, [])
      | .saveAbort => (0x35, 0, [])
      | .loadOpen b => (0x36, 1, [b])
      | .loadData n => (0x37, 1, [n])
      | .loadClose => (0x38, 0, [])
      | .slotErase b => (0x39, 1, [b])
      | .slotCopy x y => (0x3A, 2, [x, y])
      | .slotLock b on => (0x3B, 2, [b] ++ flag on)
      | .storeVerify sc b => (0x3C, 2, [sc, b])
      | .faultRead i => (0x48, 1, [i])
      | .faultClearIndex i => (0x49, 2, [0, i])
      | .faultClearAllMine => (0x49, 2, [1, 0])
      | .faultClearOverflow => (0x49, 2, [2, 0])
      | .faultClearOther sel i => (0x49, 2, [sel, i])
      | .partInfo c => (0x50, 1, flag c)
    q.encode tag = { kind := row.1, plen := row.2.1, tag := tag, params := row.2.2 })
  ∧ (∀ r : Request, r.malformed = false ↔ r.plen = r.params.length ∧
    ((r.kind.toNat, r.plen) ∈ ([(0x01, 31), (0x02, 8), (0x03, 1), (0x04, 1), (0x05, 1), (0x10, 3), (0x11, 2),
        (0x18, 1), (0x19, 2), (0x1A, 0), (0x1B, 0), (0x20, 0), (0x21, 7), (0x22, 1), (0x23, 2), (0x24, 2),
        (0x30, 0), (0x31, 1), (0x32, 3), (0x34, 0), (0x35, 0), (0x36, 1), (0x37, 1), (0x38, 0), (0x39, 1),
        (0x3A, 2), (0x3B, 2), (0x3C, 2), (0x48, 1), (0x49, 2), (0x50, 1)] : List (Nat × Nat))
      ∨ r.kind = 0x33 ∧ 1 ≤ r.plen ∧ r.plen ≤ 64))
  ∧ (∀ tag b x : Byte,
    let asks (kind : Byte) (params : List Byte) : Option Req :=
      decodeRequest { kind := kind, plen := params.length, tag := tag, params := params }
    asks 0x18 [x] = some (.rumbleEnable (decide (x ≠ 0))) ∧ asks 0x50 [x] = some (.partInfo (decide (x ≠ 0)))
    ∧ asks 0x3B [b, x] = some (.slotLock b (decide (x ≠ 0))))
  ∧ (∀ (n width : Nat) (z : Int) (b : Bool) (field : List Byte),
    u8 n = [BitVec.ofNat 8 n] ∧ u16 n = [BitVec.ofNat 8 n, BitVec.ofNat 8 (n / 256)]
    ∧ u32 n = [BitVec.ofNat 8 n, BitVec.ofNat 8 (n / 256), BitVec.ofNat 8 (n / 65536),
        BitVec.ofNat 8 (n / 16777216)]
    ∧ i8 z = [BitVec.ofInt 8 z] ∧ i16 z = u16 (BitVec.ofInt 16 z).toNat ∧ flag b = [if b then 1 else 0]
    ∧ optional width none = 0 :: List.replicate width 0 ∧ optional width (some field) = 1 :: field)
  ∧ (∀ n : Notice, (n.kind, n.fields) = match n with
    | .dayTurned old new => (0x60, u16 old ++ u16 new)
    | .voiceEnded h r => (0x61, [h] ++ u8 r.code)
    | .txnLost slot r => (0x62, u8 slot.val ++ u8 r.code)
    | .faultLogged i k c x => (0x63, u8 i.val ++ u8 k.code ++ u8 c.code ++ optional 1 (x.map u8))
    | .storeReady r gen v d => (0x64, u8 (mountResultCode r) ++ u32 gen ++ u8 v ++ u8 d)
    | .motorState r st derated stale on x input =>
      (0x65, u8 r.code ++ u8 st.code ++ flag derated ++ flag stale ++ flag on ++ u8 x
        ++ u8 (if input then 0 else 1))
    | .noticesLost count => (0x66, u16 count))
  ∧ ([Code.ok, .notReady, .badRequest, .denied, .range, .busy, .slotBusy, .noSpace, .empty, .damaged,
      .locked, .incomplete, .noTransaction, .stale, .noVoice, .cutoffActive, .timeout].map fun c =>
      c.byte.toNat) = List.range 17
  ∧ [VoiceState.free, .keyed, .playing, .releasing].map VoiceState.code = List.range 4
  ∧ [EnvPhase.attack, .decay, .sustain].map EnvPhase.code = List.range 3
  ∧ [Master.game, .system].map masterCode = List.range 2
  ∧ [Destination.speaker, .motor].map Destination.code = List.range 2
  ∧ [EndReason.endOfSample, .released, .stopped, .stolen, .starved, .reset].map EndReason.code = List.range 6
  ∧ [MotorState.coast, .fwd, .rev, .brake, .cutoff, .disabled].map MotorState.code = List.range 6
  ∧ [Target.coast, .fwd, .rev].map Target.code = List.range 3
  ∧ [Direction.none, .fwd, .rev].map Direction.code = List.range 3
  ∧ [MotorReason.cutoffInput, .supplyFailing, .inputChanged, .resumed, .derateOn, .derateOff, .staleOn, .staleOff,
      .enableChanged].map MotorReason.code = List.range 9
  ∧ [StoreState.offline, .mounting, .formatting, .ready].map StoreState.code = List.range 4
  ∧ [some MountResult.normal, some .onePage, some .formatted, none].map mountResultCode = List.range 4
  ∧ [some PageId.a, some .b, none].map activePageCode = List.range 3
  ∧ [SlotState.empty, .valid, .damaged].map SlotState.code = List.range 3
  ∧ [Writer.game, .system, .copy].map Writer.code = List.range 3
  ∧ [FaultKind.accessDenied, .storeBlank, .directoryDamaged, .slotDamaged, .voiceStarved, .motorCutoff,
      .motorDerated, .configInvalid, .batteryWeak, .batteryLost].map FaultKind.code = List.range 10
  ∧ [Concerned.game, .system, .both].map Concerned.code = List.range 3
  ∧ [StartPhase.held, .waiting, .loading, .loaded].map StartPhase.code = List.range 4
  ∧ [ConfigSource.none, .block, .defaults].map ConfigSource.code = List.range 3
  ∧ [LostReason.erased, .replaced, .locked].map LostReason.code = List.range 3

/-- A request written to REQ word by word does what the same request does when it arrives whole: at a free
game port without an assembly (R164, 11.1). A port that is not free is the matter of ReqWriteAssembles. -/
def Obligations.WordsCarryRequest : Prop :=
  ∀ (tag : Byte) (q : Req) (s : State), q.WellFormed → s.portFree .game → s.game.assembly = none →
    feedWords (requestWords tag q) s = .next (s.arrive .game tag q)

/-- A request sent as a frame does what the same request does when it arrives whole: at a free system port that is
receiving nothing. At a port with a place any good frame enters the request queue at its tail, whatever its payload,
and is handed over when it can be. A bad frame is dropped and counted; a frame that comes without a place is dropped
and counted as unready; a byte outside a frame is passed over; and the frame check is the CRC-8 of chapter 10. The
link is clocked in both directions: with each byte that comes in one byte goes out of a frame that waits, whose last
byte completes it as SEND_FRAME does; with nothing waiting none goes out (10.3, 11.2, R166; that an unready frame is
counted at its end is log entry 17, how the bytes of the two directions fall together log entry 48). -/
def Obligations.FrameCarriesRequest : Prop :=
  (∀ (tag : Byte) (q : Req) (s : State), q.WellFormed → s.portFree .system → s.sys.rx = .idle →
    let bytes := requestFrameBytes tag q
    s.frameOutlasts bytes.length →
    exec (.requestFrame bytes) s = .next ((s.linkMoved bytes.length).arrive .system tag q))
  ∧ (∀ (kind plen tag code : Byte) (params : List Byte) (s : State), params.length ≤ 64 →
    s.powered = true → s.sys.rx = .idle → s.sys.q.requests.length < 8 →
    s.frameOutlasts (params.length + 8) →
    let body := kind :: plen :: tag :: code :: params
    let covered : List Byte := 0x01 :: BitVec.ofNat 8 body.length :: body
    let r : Request := { kind := kind, plen := plen.toNat, tag := tag, params := params }
    let t := s.linkMoved (params.length + 8)
    exec (.requestFrame (0xA5 :: covered ++ [crc8 covered])) s = .next (State.drainAll
      { t with sys := { t.sys with q := { t.sys.q with requests := t.sys.q.requests ++ [r] } } }
      .system))
  ∧ (∀ (type check : Byte) (body : List Byte) (s : State), body.length ≤ 255 →
    s.powered = true → s.sys.rx = .idle → s.frameOutlasts (body.length + 4) →
    let covered := type :: BitVec.ofNat 8 body.length :: body
    let t := s.linkMoved (body.length + 4)
    (s.sys.q.requests.length < 8 →
      type ≠ 0x01 ∨ body.length < 4 ∨ 68 < body.length ∨ check ≠ crc8 covered →
      exec (.requestFrame (0xA5 :: covered ++ [check])) s =
        .next { t with sys := { t.sys with bad := min 65535 (t.sys.bad + 1) } })
    ∧ (s.sys.q.requests.length = 8 →
      exec (.requestFrame (0xA5 :: covered ++ [check])) s =
        .next { t with sys := { t.sys with unready := min 65535 (t.sys.unready + 1) } }))
  ∧ (∀ (b : Byte) (s : State), b ≠ 0xA5 → s.sys.rx = .idle →
    (s.powered = false ∨ s.sys.q.replies = [] ∧ s.sys.q.notices = [] → exec (.requestFrame [b]) s = .next s)
    ∧ (s.systemAttention = true → s.sys.sent + 1 < s.oldestFrame.length →
      exec (.requestFrame [b]) s = .next { s with sys := { s.sys with sent := s.sys.sent + 1 } })
    ∧ (s.systemAttention = true → s.oldestFrame.length ≤ s.sys.sent + 1 →
      exec (.requestFrame [b]) s = exec .sendFrame s))
  ∧ (∀ (b : Byte) (bs : List Byte) (s : State), s.powered = true →
    (s.sys.q.replies = [] → s.sys.q.notices = [] →
      exec (.requestFrame (b :: bs)) s = .next (bs.foldl State.clockByte (s.linkByte b)))
    ∧ (s.systemAttention = true → s.sys.sent + 1 < s.oldestFrame.length →
      exec (.requestFrame (b :: bs)) s = .next (bs.foldl State.clockByte
        (State.linkByte { s with sys := { s.sys with sent := s.sys.sent + 1 } } b)))
    ∧ (s.systemAttention = true → s.oldestFrame.length ≤ s.sys.sent + 1 →
      ∃ t, exec .sendFrame s = .next t
        ∧ exec (.requestFrame (b :: bs)) s = .next (bs.foldl State.clockByte (t.linkByte b))))
  ∧ crc8 [] = 0 ∧ crc8 [0x31, 0x32, 0x33, 0x34, 0x35, 0x36, 0x37, 0x38, 0x39] = 0xF4
  ∧ ∀ (l : List Byte) (b : Byte), crc8 (l ++ [b]) = (List.range 8).foldl
      (fun r _ => if r.getLsbD 7 then (r <<< 1) ^^^ 0x07 else r <<< 1) (crc8 l ^^^ b)

/-- What is answered before any job sees the request: a malformed request with BAD_REQUEST, its own kind and
tag and no result, in every phase (R169); a request whose job is not yet running with NOT_READY, whatever its
parameters (R160). Neither changes anything else. That a kind of 0 is returned too, although R165 says that no reply
header reads as 0x0000, is log entry 47. -/
def Obligations.RefusedBeforeJob : Prop :=
  (∀ (m : Master) (r : Request) (s : State), s.portFree m → r.malformed = true →
    exec (.badRequest m r) s = .next (s.withReply m r.kind r.tag .badRequest []))
  ∧ (∀ (m : Master) (tag : Byte) (q : Req) (c : Instr) (s : State), requestCommand m tag q = some c →
    q.WellFormed → s.portFree m → s.familyReady (requestFamily q) = false →
    exec c s = .next (s.withReply m q.kind tag .notReady []))

/-- A request waits at the tail of its master's queue while no reply slot is free. One that finds no place sets
the game port's overflow flag, or counts as an unready frame on the link. Requests are handed over from the
head, one after another, while a reply slot is free. A reply takes the slot reserved for it, at the end of the
reply order. A notice is placed at the tail of the notice queue while fewer than 16 are there, and otherwise dropped
and counted, up to 65,535 (R163, R164, R168, R170; that a hand-over falls in the step that allows it is log entry
3). -/
def Obligations.RequestsDrain : Prop :=
  (∀ (m : Master) (tag : Byte) (q : Req) (c : Instr) (s : State), requestCommand m tag q = some c →
    q.WellFormed → s.powered = true →
    (0 < s.requestSpace m → (s.queues m).slotFree = false →
      exec c s = .next (s.setQueues m { s.queues m with
        requests := (s.queues m).requests ++ [q.encode tag] }))
    ∧ (s.requestSpace m = 0 → exec c s = .next (match m with
      | .game => { s with game := { s.game with overflow := true } }
      | .system => { s with sys := { s.sys with unready := min 65535 (s.sys.unready + 1) } })))
  ∧ (∀ (m : Master) (s : State),
    ((s.queues m).requests = [] ∨ (s.queues m).slotFree = false → s.drainAll m = s)
    ∧ ∀ r rest, (s.queues m).requests = r :: rest → (s.queues m).slotFree = true →
      s.drainAll m =
        ((s.setQueues m { s.queues m with requests := rest }).handOver m r).drainAll m)
  ∧ (∀ (s : State) (r : Reply),
    let placed (q : Queues) : Queues :=
      { q with reserved := q.reserved - 1, replies := q.replies ++ [(q.placed, r)], placed := q.placed + 1 }
    s.reply .game r = { s with game := { s.game with q := placed s.game.q } }
    ∧ s.reply .system r = { s with sys := { s.sys with q := placed s.sys.q } })
  ∧ ∀ (q : Queues) (s : State) (n : Notice),
    (q.notices.length < 16 → q.post n =
      { q with notices := q.notices ++ [(q.placed, n)], placed := q.placed + 1 })
    ∧ (16 ≤ q.notices.length → q.post n = { q with lost := min 65535 (q.lost + 1) })
    ∧ s.post .game n = { s with game := { s.game with q := s.game.q.post n } }
    ∧ s.post .system n = { s with sys := { s.sys with q := s.sys.q.post n } }
    ∧ s.postBoth n = (s.post .game n).post .system n

/-- No request of the game processor changes the battery domain, the clock's console half, the rumble
driver, the duck factor, the system mix level, the battery monitor or the loaded configuration (the issuers'
table of 10.9). -/
def Obligations.GameRequestsLeave : Prop :=
  ∀ (tag : Byte) (q : Req) (c : Instr) (s t : State), requestCommand .game tag q = some c →
    exec c s = .next t →
    t.bd = s.bd ∧ t.gc = s.gc ∧ t.rd = s.rd ∧ t.mx.dk = s.mx.dk ∧ t.mx.ms = s.mx.ms ∧ t.bm = s.bm
      ∧ t.bl.cfg = s.bl.cfg ∧ t.bl.phase = s.bl.phase

/-- PART_INFO is answered in every phase with the part code, the revision, the phase, the source, the clamped
count and, to the system processor alone, the link counts, which a set flag then clears (R172). The number of each
configuration source is log entry 44. -/
def Obligations.PartInfoReports : Prop :=
  ∀ (m : Master) (tag : Byte) (clear : Bool) (s : State), s.portFree m →
    exec (.partInfo m tag clear) s = .next
      (({ s with sys := { s.sys with
            bad := if m = .system ∧ clear = true then 0 else s.sys.bad
            unready := if m = .system ∧ clear = true then 0 else s.sys.unready } } : State).withReply
        m 0x50 tag .ok
        (u16 0x0754 ++ u8 1 ++ u8 s.bl.phase.code ++ u8 s.bl.source.code ++ u8 s.bl.clamped
          ++ optional 2 (if m = .system then some (u16 s.sys.bad) else none)
          ++ optional 2 (if m = .system then some (u16 s.sys.unready) else none)))

/-- A word written to REQ while no place is free is dropped and sets the overflow flag; a word that does not
complete its assembly is kept in it. The words an assembly needs are the header, the tag word and one word for
two parameter bytes, or two when the header declares more than 64. The completing word brings the request to the
tail of the queue, at a port that is free or not, and the port hands over what it can. A read of REQ returns 0
(R164; the read has no command, log entry 36). -/
def Obligations.ReqWriteAssembles : Prop :=
  (∀ (w : Word) (s : State), s.powered = true → s.game.assembly = none →
    s.game.q.requests.length = 8 →
    exec (.reqWrite w) s = .next { s with game := { s.game with overflow := true } })
  ∧ (∀ (w : Word) (s : State), s.powered = true → s.game.assembly = none →
    s.game.q.requests.length < 8 →
    exec (.reqWrite w) s = .next { s with game := { s.game with assembly := some [w] } })
  ∧ (∀ (h w : Word) (ws : List Word) (s : State), s.powered = true →
    s.game.assembly = some (h :: ws) → ws.length + 2 < wordsNeeded h →
    exec (.reqWrite w) s =
      .next { s with game := { s.game with assembly := some ((h :: ws) ++ [w]) } })
  ∧ (∀ h : Word, wordsNeeded h =
      if 64 < h.toNat % 256 then 2 else 2 + (h.toNat % 256 + 1) / 2)
  ∧ (∀ (h w : Word) (ws : List Word) (s : State), s.powered = true →
    s.game.assembly = some (h :: ws) → ws.length + 2 = wordsNeeded h →
    let words := ws ++ [w]
    let bytes := words.tail.flatMap fun x => [BitVec.ofNat 8 x.toNat, BitVec.ofNat 8 (x.toNat / 256)]
    let r : Request :=
      { kind := BitVec.ofNat 8 (h.toNat / 256), plen := h.toNat % 256
        tag := BitVec.ofNat 8 (words.headD 0).toNat, params := bytes.take (h.toNat % 256) }
    exec (.reqWrite w) s = .next (State.drainAll
      { s with game := { s.game with
          assembly := none
          q := { s.game.q with requests := s.game.q.requests ++ [r] } } } .game))
  ∧ (∀ s : State, s.powered = true → s.readReq = { s with busData := 0 })

/-- A read of RSP or NOTE returns 0 while nothing is held there; it returns the word at the read position and
moves on. With the last word of a reply its slot is free and waiting requests are handed over; with the last
word of a notice the notice leaves, and a lost count above 0 takes its place as NOTICES_LOST. The words of a reply
are the header with its kind and result length, the tag word with its code and tag, and the result bytes two to a
word, the first in bits 7 to 0, an odd last one padded with 0; a notice has the tag word 0 (R165, R168, R170, R174,
11.1; that the header of a BAD_REQUEST to a request of kind 0 reads as 0 is log entry 47). -/
def Obligations.GameReads : Prop :=
  (∀ (r : Reply) (n : Notice),
    let header (kind : Byte) (body : List Byte) : Word := BitVec.ofNat 16 (256 * kind.toNat + body.length)
    let packed (l : List Byte) : List Word := (List.range ((l.length + 1) / 2)).map fun i =>
      BitVec.ofNat 16 (((l[2 * i]?).getD 0).toNat + 256 * ((l[2 * i + 1]?).getD 0).toNat)
    (r.result.length ≤ 255 → r.words = header r.kind r.result
      :: BitVec.ofNat 16 (256 * r.code.byte.toNat + r.tag.toNat) :: packed r.result)
    ∧ n.words = header n.kind n.fields :: 0 :: packed n.fields)
  ∧ (∀ s : State, s.powered = true → s.game.q.replies = [] →
    exec .rspRead s = .next { s with busData := 0 })
  ∧ (∀ (s : State) (k : Nat) (r : Reply) (rest : List (Nat × Reply)) (w : Word), s.powered = true →
    s.game.q.replies = (k, r) :: rest → s.game.replyPos + 1 < r.words.length →
    r.words[s.game.replyPos]? = some w →
    exec .rspRead s = .next { s with
      busData := w
      game := { s.game with replyPos := s.game.replyPos + 1 } })
  ∧ (∀ (s : State) (k : Nat) (r : Reply) (rest : List (Nat × Reply)) (w : Word), s.powered = true →
    s.game.q.replies = (k, r) :: rest → s.game.replyPos + 1 = r.words.length →
    r.words[s.game.replyPos]? = some w →
    exec .rspRead s = .next (State.drainAll { s with
      busData := w
      game := { s.game with replyPos := 0, q := { s.game.q with replies := rest } } } .game))
  ∧ (∀ s : State, s.powered = true → s.game.q.notices = [] →
    exec .noteRead s = .next { s with busData := 0 })
  ∧ (∀ (s : State) (k : Nat) (n : Notice) (rest : List (Nat × Notice)) (w : Word), s.powered = true →
    s.game.q.notices = (k, n) :: rest → s.game.noticePos + 1 < n.words.length →
    n.words[s.game.noticePos]? = some w →
    exec .noteRead s = .next { s with
      busData := w
      game := { s.game with noticePos := s.game.noticePos + 1 } })
  ∧ (∀ (s : State) (k : Nat) (n : Notice) (rest : List (Nat × Notice)) (w : Word), s.powered = true →
    s.game.q.notices = (k, n) :: rest → s.game.noticePos + 1 = n.words.length →
    n.words[s.game.noticePos]? = some w →
    exec .noteRead s = .next { s with
      busData := w
      game := { s.game with
        noticePos := 0
        q := if s.game.q.lost = 0 then { s.game.q with notices := rest }
          else { s.game.q with
            notices := rest ++ [(s.game.q.placed, .noticesLost s.game.q.lost)]
            placed := s.game.q.placed + 1
            lost := 0 } } })

/-- PORT STATUS: a read returns the word at the pointer and moves it to the other; a write acts by its low
bits and sets the pointer to A; the three actions have their commands; a write of RSP or NOTE changes
nothing (R164, R165, R173). -/
def Obligations.PortStatus : Prop :=
  (∀ s : State, s.powered = true → s.game.pointer = .a →
    exec .portStatusRead s = .next { s with
      game := { s.game with pointer := .b }
      busData := BitVec.ofNat 16 (s.game.space + 16 * s.game.q.replies.length
        + 256 * s.game.q.notices.length) })
  ∧ (∀ s : State, s.powered = true → s.game.pointer = .b →
    exec .portStatusRead s = .next { s with
      game := { s.game with pointer := .a }
      busData := BitVec.ofNat 16 (32768 + (if s.game.assembly.isSome then 1 else 0)
        + (if s.game.overflow then 2 else 0) + (if s.game.attention then 4 else 0)
        + 16 * s.bl.phase.code) })
  ∧ (∀ (w : Word) (s : State), s.powered = true →
    exec (.portStatusWrite w) s = .next { s with game := { s.game with
      pointer := .a
      assembly := if w.getLsbD 0 then none else s.game.assembly
      overflow := if w.getLsbD 1 then false else s.game.overflow
      attention := if w.getLsbD 2 then w.getLsbD 3 else s.game.attention } })
  ∧ (∀ s : State, s.powered = true →
    exec .discardAssembly s = .next { s with game := { s.game with pointer := .a, assembly := none } })
  ∧ (∀ s : State, s.powered = true →
    exec .clearOverflow s = .next { s with game := { s.game with pointer := .a, overflow := false } })
  ∧ (∀ (on : Bool) (s : State), s.powered = true →
    exec (.writeAttentionEnable on) s =
      .next { s with game := { s.game with pointer := .a, attention := on } })
  ∧ (∀ (loc : ReadOnlyLoc) (w : Word) (s : State), exec (.registerWriteNoEffect loc w) s = .next s)

/-- The system link sends the oldest of the replies and notices by the order of their placing, and it leaves
its place when the frame is out; with nothing waiting nothing is sent (log entry 2). One SEND_FRAME carries all
that is left of the frame (log entry 17); a byte that the link carries goes out of the same frame, and the last
one completes it. The system attention line is active while a reply or notice waits, the cartridge interrupt pin
while one waits and attention enable is on, and the ready line while the system request queue has a free place
that no frame being received holds. A frame is the start marker, the type, the payload length, the payload and the
CRC-8 of all but the marker; the payload is kind, result length, tag and code, and then the result bytes, with tag
and code 0 in a notice (R166, R167, R170, R174, 11.2). What goes out while a request frame comes in is
FrameCarriesRequest; that no byte comes in with a SEND_FRAME is log entry 48. -/
def Obligations.SendFrameOldest : Prop :=
  (∀ s : State, s.powered = true → s.sys.q.replies = [] → s.sys.q.notices = [] →
    exec .sendFrame s = .next s)
  ∧ (∀ (s : State) (k : Nat) (r : Reply) (rest : List (Nat × Reply)), s.powered = true →
    s.sys.q.replies = (k, r) :: rest → (∀ n ∈ s.sys.q.notices.head?, k ≤ n.1) →
    exec .sendFrame s = .next (State.drainAll { s with
      linkOut := frameBytes 0x02 r.payload
      sys := { s.sys with sent := 0, q := { s.sys.q with replies := rest } } } .system))
  ∧ (∀ (s : State) (k : Nat) (n : Notice) (rest : List (Nat × Notice)), s.powered = true →
    s.sys.q.notices = (k, n) :: rest → (∀ r ∈ s.sys.q.replies.head?, k < r.1) →
    exec .sendFrame s = .next { s with
      linkOut := frameBytes 0x03 n.payload
      sys := { s.sys with
        sent := 0
        q := if s.sys.q.lost = 0 then { s.sys.q with notices := rest }
          else { s.sys.q with
            notices := rest ++ [(s.sys.q.placed, .noticesLost s.sys.q.lost)]
            placed := s.sys.q.placed + 1
            lost := 0 } } })
  ∧ (∀ s : State, s.powered = true → s.sys.q.replies ≠ [] ∨ s.sys.q.notices ≠ [] →
    (s.sys.sent + 1 < s.oldestFrame.length →
      s.sendByte = { s with sys := { s.sys with sent := s.sys.sent + 1 } })
    ∧ (s.oldestFrame.length ≤ s.sys.sent + 1 → exec .sendFrame s = .next s.sendByte))
  ∧ (∀ s : State,
    (s.systemAttention = true ↔
      s.powered = true ∧ (s.sys.q.replies ≠ [] ∨ s.sys.q.notices ≠ []))
    ∧ (s.interruptPin = true ↔ s.powered = true ∧ s.game.attention = true
      ∧ (s.game.q.replies ≠ [] ∨ s.game.q.notices ≠ []))
    ∧ (s.readyLine = true ↔ s.powered = true
      ∧ s.sys.q.requests.length + (match s.sys.rx with
        | .frame true _ => 1
        | _ => 0) < 8))
  ∧ (∀ (type : Byte) (payload : List Byte), frameBytes type payload =
    0xA5 :: type :: BitVec.ofNat 8 payload.length :: payload
      ++ [crc8 (type :: BitVec.ofNat 8 payload.length :: payload)])
  ∧ (∀ r : Reply, r.payload =
    r.kind :: BitVec.ofNat 8 r.result.length :: r.tag :: r.code.byte :: r.result)
  ∧ (∀ n : Notice, n.payload = n.kind :: BitVec.ofNat 8 n.fields.length :: 0 :: 0 :: n.fields)
  ∧ (∀ (s : State) (k : Nat) (r : Reply) (rest : List (Nat × Reply)), s.sys.q.replies = (k, r) :: rest →
    (∀ n ∈ s.sys.q.notices.head?, k ≤ n.1) → s.oldestFrame = frameBytes 0x02 r.payload)
  ∧ (∀ (s : State) (k : Nat) (n : Notice) (rest : List (Nat × Notice)),
    s.sys.q.notices = (k, n) :: rest → (∀ r ∈ s.sys.q.replies.head?, k < r.1) →
    s.oldestFrame = frameBytes 0x03 n.payload)

/-- The queues never hold more than they have places for: requests with the place an assembly holds 8, notices
16, reply slots held and reserved 8; and a slot is reserved for every reply that work under way still owes
(R163, R168). Every step keeps this. -/
def Obligations.QueuesBounded : Prop :=
  ∀ s t : State, s.queuesSafe → step s = .next t → t.queuesSafe

/-! ## The voice pool -/

/-- VOICE_START is refused with RANGE, and changes nothing, exactly when R5 or R52 says so: the named values, L,
the loop start, the alignment of PCM16, volume, pan, sustain level, priority, and the sample's bytes within the
ROM, whose sum does not wrap. What is accepted covers every byte the channel can fetch, from the source and from
the loop start. The two worked cases of R52 follow. -/
def Obligations.StartRange : Prop :=
  (∀ (p : VoiceStart) (romBytes : Nat), startInRange p romBytes = true ↔
    p.dest.toNat ≤ 1 ∧ p.format.toNat ≤ 1 ∧ 2 ≤ p.length.toNat ∧ p.length.toNat ≤ 16777215
    ∧ (∀ l, p.loop = some l → l.toNat + 2 ≤ p.length.toNat)
    ∧ (p.format.toNat = 1 → p.source.toNat % 2 = 0)
    ∧ p.volume.toNat ≤ 127 ∧ p.pan.toNat ≤ 127 ∧ p.sustain.toNat ≤ 32767 ∧ p.priority.toNat ≤ 7
    ∧ p.source.toNat + p.length.toNat * (p.format.toNat + 1) ≤ romBytes)
  ∧ (∀ (m : Master) (tag : Byte) (p : VoiceStart) (s : State), s.takes m .running →
    startInRange p s.bl.cfg.romBytes = false →
    exec (.voiceStart m tag p) s = .next (s.withReply m 0x01 tag .range []))
  ∧ (∀ (p : VoiceStart) (romBytes : Nat) (busy discard : Bool), startInRange p romBytes = true →
    let c := setUpChannel p busy discard
    c.next + c.toEnd ≤ romBytes ∧ ∀ l a, p.loop = some l → c.loopAddr = some a →
      c.next ≤ a ∧ a + (p.length.toNat - l.toNat) * c.bps ≤ romBytes)
  ∧ (∀ p : VoiceStart, p.format = 1 → p.source = 8388000 →
    (p.length = 304 → startInRange p 8388608 = startInRange p 16777216)
    ∧ (p.length = 305 → startInRange p 8388608 = false))

/-- VOICE_START in range takes the lowest-numbered FREE voice: its record, its place at the end of the age list, its
channel and the reply with the new handle, with no underrun mark left from an earlier use of its number (R35, R53;
log entry 32); then the arbiter decides, in the same step (log entry 26), and nothing else changes (R3, R6, R10,
R40). -/
def Obligations.VoiceStartTakesFree : Prop :=
  ∀ (m : Master) (tag : Byte) (p : VoiceStart) (s : State) (v : Fin 16), s.takes m .running →
    startInRange p s.bl.cfg.romBytes = true → s.voices[v].state = .free →
    (∀ w : Fin 16, w < v → s.voices[w].state ≠ .free) →
    exec (.voiceStart m tag p) s = .next (State.arbitrate
      (({ s with
          voices := putAt s.voices v (allocatedRecord m p s.voices[v].gen)
          age := s.age ++ [v]
          mx := { s.mx with marks := putAt s.mx.marks v false }
          channels := putAt s.channels v (setUpChannel p s.channels[v].inFlight
            s.channels[v].discard) } : State).withReply m 0x01 tag .ok
        [mkHandle v (s.voices[v].gen + 1)]))

/-- With no voice FREE, VOICE_START in range takes the victim that stealing finds: the victim's owner gets
VOICE_ENDED with STOLEN and the old handle, and the same voice number is allocated, its underrun mark cleared (log
entry 32); without a victim the request is refused with NO_VOICE and nothing changes (R6, R9). That the arbiter
decides in the same step is log entry 26. -/
def Obligations.VoiceStartSteals : Prop :=
  (∀ (m : Master) (tag : Byte) (p : VoiceStart) (s : State) (v : Fin 16), s.takes m .running →
    startInRange p s.bl.cfg.romBytes = true → (∀ w : Fin 16, s.voices[w].state ≠ .free) →
    s.victim m p.priority.toNat = some v →
    exec (.voiceStart m tag p) s = .next (State.arbitrate
      ((({ s with
          voices := putAt s.voices v (allocatedRecord m p s.voices[v].gen)
          age := s.age.filter (· != v) ++ [v]
          mx := { s.mx with marks := putAt s.mx.marks v false }
          channels := putAt s.channels v (setUpChannel p s.channels[v].inFlight
            s.channels[v].inFlight) } : State).post s.voices[v].owner
            (.voiceEnded (mkHandle v s.voices[v].gen) .stolen)).withReply m 0x01 tag .ok
        [mkHandle v (s.voices[v].gen + 1)])))
  ∧ (∀ (m : Master) (tag : Byte) (p : VoiceStart) (s : State), s.takes m .running →
    startInRange p s.bl.cfg.romBytes = true → (∀ w : Fin 16, s.voices[w].state ≠ .free) →
    s.victim m p.priority.toNat = none →
    exec (.voiceStart m tag p) s = .next (s.withReply m 0x01 tag .noVoice []))

/-- With every voice in use and the age list sound, the victim is a candidate of R7, RELEASING if any
candidate is, of the lowest priority among those, and of those the oldest (R8); and there is no victim only
when there is no candidate. -/
def Obligations.VictimChosen : Prop :=
  ∀ (m : Master) (priority : Nat) (s : State), s.poolSafe → (∀ w : Fin 16, s.voices[w].state ≠ .free) →
    (s.victim m priority = none → ∀ w, ¬ mayTake s m priority w)
    ∧ ∀ v, s.victim m priority = some v →
      mayTake s m priority v
      ∧ (∀ w, mayTake s m priority w → s.voices[w].state = .releasing →
          s.voices[v].state = .releasing)
      ∧ (∀ w, mayTake s m priority w →
          (s.voices[v].state = .releasing → s.voices[w].state = .releasing) →
          s.voices[v].priority < s.voices[w].priority
          ∨ s.voices[v].priority = s.voices[w].priority ∧ s.age.idxOf v ≤ s.age.idxOf w)

/-- How a voice ends, whatever the reason: FREE, no phase, the reason kept, no pending field, E and the starve
count 0; out of the age list; its channel idle and empty, a burst in flight marked; and the notice by R18's
table, with the handle the voice had (R18, R46). A voice in use whose starve count has reached 3 ends so with
STARVED, and then VOICE_STARVED is posted, concerning its owner with the voice as its subject (R54; that
VOICE_STARVE acts so where a count stands at 3 is log entry 18). -/
def Obligations.VoiceEnds : Prop :=
  (∀ (s : State) (v : Fin 16) (r : EndReason),
    let ended : State := { s with
      voices := putAt s.voices v { s.voices[v] with
        state := .free, phase := none, endReason := some r, pendingStep := none
        pendingVolume := none, pendingPan := none, level := 0, starve := 0 }
      age := s.age.filter (· != v)
      channels := putAt s.channels v { s.channels[v] with
        state := .idle, fifo := [], skip := 0, discard := s.channels[v].inFlight } }
    s.endVoice v r =
      if r = .stolen ∨ r = .starved ∨ (r ≠ .reset ∧ s.voices[v].notify = true) then
        ended.post s.voices[v].owner (.voiceEnded (mkHandle v s.voices[v].gen) r)
      else ended)
  ∧ (∀ (s : State) (v : Fin 16), s.powered = true → s.voices[v].state ≠ .free →
    3 ≤ s.voices[v].starve →
    exec (.voiceStarve v.val) s = .next ((s.endVoice v .starved).postFault .voiceStarved
      (match s.voices[v].owner with
        | .game => .game
        | .system => .system) (some v.val)))

/-- VOICE_SET writes each field present into its pending field, the pitch step clamped, and leaves the others;
a volume or pan above 127 refuses the whole request (R16). -/
def Obligations.VoiceSetStages : Prop :=
  (∀ (m : Master) (tag : Byte) (p : VoiceSet) (s : State), s.takes m .running →
    s.ownsHandle m p.handle → (∀ b, p.volume = some b → b.toNat ≤ 127) →
    (∀ b, p.pan = some b → b.toNat ≤ 127) →
    exec (.voiceSet m tag p) s = .next
      (({ s with voices := putAt s.voices (handleVoice p.handle) { s.voices[handleVoice p.handle] with
        pendingStep := match p.step with
          | some q => some (max 0x100 (min 0x40000 q.toNat))
          | none => s.voices[handleVoice p.handle].pendingStep
        pendingVolume := match p.volume with
          | some b => some b.toNat
          | none => s.voices[handleVoice p.handle].pendingVolume
        pendingPan := match p.pan with
          | some b => some b.toNat
          | none => s.voices[handleVoice p.handle].pendingPan } } : State).withReply m 0x02 tag .ok []))
  ∧ (∀ (m : Master) (tag : Byte) (p : VoiceSet) (s : State), s.takes m .running →
    s.ownsHandle m p.handle →
    (∃ b, (p.volume = some b ∨ p.pan = some b) ∧ 127 < b.toNat) →
    exec (.voiceSet m tag p) s = .next (s.withReply m 0x02 tag .range []))

/-- VOICE_RELEASE: a PLAYING voice becomes RELEASING and keeps E; a RELEASING voice is left as it is; a KEYED voice
ends with RELEASED. VOICE_STOP ends the voice with STOPPED in any state. Each is answered OK (R13, R15; that the
voice's notice is placed before the reply is log entry 35). -/
def Obligations.VoiceReleasedOrStopped : Prop :=
  (∀ (m : Master) (tag h : Byte) (s : State), s.takes m .running → s.ownsHandle m h →
    s.voices[handleVoice h].state = .playing →
    exec (.voiceRelease m tag h) s = .next
      (({ s with voices := putAt s.voices (handleVoice h) { s.voices[handleVoice h] with
          state := .releasing, phase := none } } : State).withReply m 0x03 tag .ok []))
  ∧ (∀ (m : Master) (tag h : Byte) (s : State), s.takes m .running → s.ownsHandle m h →
    s.voices[handleVoice h].state = .releasing →
    exec (.voiceRelease m tag h) s = .next (s.withReply m 0x03 tag .ok []))
  ∧ (∀ (m : Master) (tag h : Byte) (s : State), s.takes m .running → s.ownsHandle m h →
    s.voices[handleVoice h].state = .keyed →
    exec (.voiceRelease m tag h) s = .next
      ((s.endVoice (handleVoice h) .released).withReply m 0x03 tag .ok []))
  ∧ (∀ (m : Master) (tag h : Byte) (s : State), s.takes m .running → s.ownsHandle m h →
    exec (.voiceStop m tag h) s = .next
      ((s.endVoice (handleVoice h) .stopped).withReply m 0x04 tag .ok []))

/-- The checks of VOICE_SET, VOICE_RELEASE and VOICE_STOP, in their order: a handle of another generation or a
FREE voice is STALE; then a voice of the other master is DENIED. A refused request changes nothing and logs no
fault (R4). -/
def Obligations.HandleChecked : Prop :=
  ∀ (m : Master) (tag : Byte) (q : Req) (c : Instr) (h : Byte) (s : State),
    (q = .voiceRelease h ∨ q = .voiceStop h ∨ ∃ p : VoiceSet, p.handle = h ∧ q = .voiceSet p) →
    requestCommand m tag q = some c → s.takes m .running →
    (s.voices[handleVoice h].gen ≠ handleGen h ∨ s.voices[handleVoice h].state = .free →
      exec c s = .next (s.withReply m q.kind tag .stale []))
    ∧ (s.voices[handleVoice h].gen = handleGen h → s.voices[handleVoice h].state ≠ .free →
      s.voices[handleVoice h].owner ≠ m →
      exec c s = .next (s.withReply m q.kind tag .denied []))

/-- VOICE_QUERY, open to either master: STALE for another generation; otherwise the fields of R19 in the
layout of R174, a FREE voice giving its last end reason alone. It changes nothing. -/
def Obligations.VoiceQueryReports : Prop :=
  ∀ (m : Master) (tag h : Byte) (s : State), s.takes m .running →
    let x := s.voices[handleVoice h]
    (x.gen ≠ handleGen h →
      exec (.voiceQuery m tag h) s = .next (s.withReply m 0x05 tag .stale []))
    ∧ (x.gen = handleGen h → x.state ≠ .free →
      exec (.voiceQuery m tag h) s = .next (s.withReply m 0x05 tag .ok
        (u8 x.state.code ++ [0, 0] ++ optional 1 (x.phase.map fun p => u8 p.code)
          ++ (1 :: u8 (masterCode x.owner)) ++ (1 :: u8 x.dest.code) ++ (1 :: u8 x.priority)
          ++ (1 :: u16 x.level) ++ (1 :: u32 x.n) ++ (1 :: u32 x.step) ++ (1 :: u8 x.volume)
          ++ (1 :: u8 x.pan) ++ optional 4 (x.pendingStep.map u32)
          ++ optional 1 (x.pendingVolume.map u8) ++ optional 1 (x.pendingPan.map u8)
          ++ (1 :: u8 x.starve) ++ (1 :: flag x.notify))))
    ∧ (x.gen = handleGen h → x.state = .free →
      exec (.voiceQuery m tag h) s = .next (s.withReply m 0x05 tag .ok
        ([0] ++ optional 1 (x.endReason.map fun r => u8 r.code) ++ List.replicate 38 0)))

/-- The age list holds each voice in use once and no other, and the starve count of a voice in use is 0, 1 or
2 (R2, R53). Every step keeps this. -/
def Obligations.PoolKept : Prop :=
  ∀ s t : State, s.poolSafe → step s = .next t → t.poolSafe

/-! ## The mixer -/

/-- The interpolated sample: its value, its bounds, and when it equals s0 (R25). -/
def Obligations.InterpolatedBetween : Prop :=
  (∀ (s0 s1 : Int) (f : Nat), f < 65536 →
    interpolate s0 s1 f = s0 + ((s1 - s0) * f).fdiv 65536
    ∧ min s0 s1 ≤ interpolate s0 s1 f ∧ interpolate s0 s1 f ≤ max s0 s1
    ∧ (f = 0 ∨ s1 = s0 → interpolate s0 s1 f = s0))
  ∧ interpolate 0 (-3) 0x8000 = -2

/-- What a voice contributes: the samples that a frame needs, read at the head of its FIFO, the second one only
where the sample goes on, none when a byte of them is missing (R24); the enveloped sample (R26) of the
interpolated one, and from it the left and right of a SPEAKER voice (R27) or the motor part of a MOTOR voice
(R28), each rounded down. With in-range fields the values stay within the bounds of R26 to R28, and are 0 at
level 0. -/
def Obligations.ContributionBounded : Prop :=
  (∀ (x : Voice) (fifo : List Byte),
    let sample (k : Nat) : Option Int := match x.format with
      | .pcm8 => fifo[k]?.map fun b => b.toInt * 256
      | .pcm16 => match fifo[2 * k]?, fifo[2 * k + 1]? with
        | some lo, some hi => some ((lo.toNat : Int) + 256 * hi.toInt)
        | _, _ => none
    x.samples fifo = match sample 0 with
      | none => none
      | some s0 =>
        if x.n + 1 < x.len ∨ x.loop.isSome = true then (sample 1).map fun s1 => (s0, s1)
        else some (s0, s0))
  ∧ (∀ (x : Voice) (s0 s1 : Int),
    let s := s0 + ((s1 - s0) * x.f).fdiv 65536
    let e := (s * x.level).fdiv 32768
    (x.dest = .speaker → x.fresh s0 s1 =
      ⟨(e * x.volume * (127 - (x.pan : Int))).fdiv 16384, (e * x.volume * x.pan).fdiv 16384, 0⟩)
    ∧ (x.dest = .motor → x.fresh s0 s1 = ⟨0, 0, (e * x.volume).fdiv 128⟩))
  ∧ (∀ (x : Voice) (s0 s1 : Int), -32768 ≤ s0 → s0 ≤ 32767 → -32768 ≤ s1 → s1 ≤ 32767 → x.f < 65536 →
    x.level ≤ 32767 → x.volume ≤ 127 → x.pan ≤ 127 →
    (x.dest = .speaker → (x.fresh s0 s1).motor = 0
      ∧ -32258 ≤ (x.fresh s0 s1).left ∧ (x.fresh s0 s1).left ≤ 32257
      ∧ -32258 ≤ (x.fresh s0 s1).right ∧ (x.fresh s0 s1).right ≤ 32257)
    ∧ (x.dest = .motor → (x.fresh s0 s1).left = 0 ∧ (x.fresh s0 s1).right = 0
      ∧ -32768 ≤ (x.fresh s0 s1).motor ∧ (x.fresh s0 s1).motor ≤ 32511)
    ∧ (x.level = 0 → x.fresh s0 s1 = ⟨0, 0, 0⟩))

/-- An audio frame outside HELD. With no tick due: the accumulators cleared, each voice's part taken in ascending
number, then the output from the accumulators, with the game level ducked while a system speaker voice sounds, each
channel saturated and a saturated frame counted once; the frame motor value; the frame counted; the line carrying
the frame before; and the arbiter decides. Each accumulator is the sum of what its voices add: the voices of the
game processor left and right to ALg and ARg, those of the system processor to ALs and ARs, and all of them their
motor part to AM, which the other kind of voice leaves (R27 to R29). The voices' parts change the pool, the
channels, the accumulators, the marks and the ports alone, and no record of a voice that does not sound. A tick
still due is taken before the frame. The line carries its frame as 32 bits, the left sample and then the right, each
16 bits in two's complement (a value outside 16 bits, which no frame formed has, modulo 65,536), most significant
bit first (R22, R23, R27 to R29, R32 to R34, R36; the tick left due is log entry 18; the arbiter's decision in the
same step is log entry 26; the time of each bit is left out, log entry 17). -/
def Obligations.FrameForms : Prop :=
  (∀ s : State, s.powered = true → s.bl.phase ≠ .held → s.mx.frames < 32 →
    let u := voiceNumbers.foldl State.frameVoice
      { s with mx := { s.mx with alg := 0, arg := 0, als := 0, ars := 0, am := 0 } }
    let duck := voiceNumbers.any fun v => s.voices[v].sounds
      && s.voices[v].owner == .system && s.voices[v].dest == .speaker
    let mg' : Nat := if duck then s.mx.mg * s.mx.dk / 256 else s.mx.mg
    let l : Int := (u.mx.alg * mg').fdiv 128 + (u.mx.als * s.mx.ms).fdiv 128
    let r : Int := (u.mx.arg * mg').fdiv 128 + (u.mx.ars * s.mx.ms).fdiv 128
    exec .audioFrame s = .next (State.arbitrate { u with mx := { u.mx with
      nextL := max (-32768) (min 32767 l)
      nextR := max (-32768) (min 32767 r)
      outL := s.mx.nextL
      outR := s.mx.nextR
      clip := if l < -32768 ∨ 32767 < l ∨ r < -32768 ∨ 32767 < r then min 65535 (s.mx.clip + 1)
        else s.mx.clip
      frameMotor := max (-32768) (min 32767 u.mx.am)
      frames := s.mx.frames + 1
      duckLast := duck } })
    ∧ u = { s with voices := u.voices, age := u.age, channels := u.channels, mx := u.mx, game := u.game
                   sys := u.sys }
    ∧ u.mx = { s.mx with alg := u.mx.alg, arg := u.mx.arg, als := u.mx.als, ars := u.mx.ars
                         am := u.mx.am, marks := u.mx.marks }
    ∧ (let part (v : Fin 16) : Contribution :=
        if s.voices[v].sounds then (match s.voices[v].samples s.channels[v].fifo with
          | none => s.voices[v].last
          | some (s0, s1) => s.voices[v].fresh s0 s1)
        else ⟨0, 0, 0⟩
      let of (m : Master) := (List.finRange 16).filter fun (v : Fin 16) => s.voices[v].owner == m
      u.mx.alg = ((of .game).map fun v => (part v).left).sum
      ∧ u.mx.arg = ((of .game).map fun v => (part v).right).sum
      ∧ u.mx.als = ((of .system).map fun v => (part v).left).sum
      ∧ u.mx.ars = ((of .system).map fun v => (part v).right).sum
      ∧ u.mx.am = ((List.finRange 16).map fun v => (part v).motor).sum)
    ∧ ∀ v : Fin 16, s.voices[v].sounds = false →
        u.voices[v] = s.voices[v] ∧ u.channels[v] = s.channels[v] ∧ u.mx.marks[v] = s.mx.marks[v])
  ∧ (∀ s : State, s.powered = true → s.bl.phase ≠ .held → 32 ≤ s.mx.frames →
    ∃ t, exec .mixerTick s = .next t ∧ t.mx.frames = 0 ∧ ∃ w, exec .audioFrame t = .next w
      ∧ exec .audioFrame s = .next w)
  ∧ ∀ s : State,
    let bit (k : Nat) : Int := if s.audioLine[k]? = some true then 1 else 0
    let sample (k : Nat) : Int :=
      ((List.range 15).map fun i => bit (k + 1 + i) * 2 ^ (14 - i)).sum - 32768 * bit k
    s.audioLine.length = 32
    ∧ sample 0 = s.mx.outL.bmod 65536 ∧ sample 16 = s.mx.outR.bmod 65536

/-- What a voice that sounds does in a frame: with its samples in the FIFO it adds what it computes afresh and
advances, wrapping at a loop's end or ending with END_OF_SAMPLE; without them it adds its last contribution,
its underrun mark is set and it stands still; a voice that is not PLAYING or RELEASING does nothing. What it adds
goes to the accumulators of its kind and owner: of a SPEAKER voice left and right, to ALg and ARg for the game
processor and to ALs and ARs for the system processor; of a MOTOR voice its part, to AM whatever the owner; the
others stay. A last contribution of its voice's kind alone stays one (R23, R24, R27 to R31). That the record of a
voice so ended keeps the position its last advance made is log entry 46. -/
def Obligations.VoiceInFrame : Prop :=
  (∀ (s : State) (v : Fin 16),
    let x := s.voices[v]
    let fed (c : Contribution) : Mixer := match x.owner with
      | .game => { s.mx with alg := s.mx.alg + c.left, arg := s.mx.arg + c.right, am := s.mx.am + c.motor }
      | .system => { s.mx with als := s.mx.als + c.left, ars := s.mx.ars + c.right, am := s.mx.am + c.motor }
    (x.sounds = true ↔ x.state = .playing ∨ x.state = .releasing)
    ∧ (x.sounds = false → s.frameVoice v = s)
    ∧ (x.sounds = true → x.samples s.channels[v].fifo = none →
      s.frameVoice v = { s with mx := { fed x.last with marks := putAt s.mx.marks v true } })
    ∧ (∀ s0 s1 : Int, s.voices[v].sounds = true →
      s.voices[v].samples s.channels[v].fifo = some (s0, s1) →
      let pos := x.n * 65536 + x.f + x.step
      let n := pos / 65536
      let k := (n - x.n) * x.format.bytes
      let after (n : Nat) : State := { s with
        mx := fed (x.fresh s0 s1)
        voices := putAt s.voices v { x with last := x.fresh s0 s1, n := n, f := pos % 65536 }
        channels := putAt s.channels v { s.channels[v] with
          fifo := s.channels[v].fifo.drop k
          skip := s.channels[v].skip + (k - s.channels[v].fifo.length) } }
      (n < x.len → s.frameVoice v = after n)
      ∧ (∀ ls, x.loop = some ls → ls < x.len → x.len ≤ n →
          s.frameVoice v = after (ls + (n - ls) % (x.len - ls)))
      ∧ (x.loop = none → x.len ≤ n → s.frameVoice v = (after n).endVoice v .endOfSample)))
  ∧ (∀ (mx : Mixer) (x : Voice) (s0 s1 : Int),
    let c := x.fresh s0 s1
    (x.dest = .speaker → x.owner = .game →
      mx.add x.owner c = { mx with alg := mx.alg + c.left, arg := mx.arg + c.right })
    ∧ (x.dest = .speaker → x.owner = .system →
      mx.add x.owner c = { mx with als := mx.als + c.left, ars := mx.ars + c.right })
    ∧ (x.dest = .motor → mx.add x.owner c = { mx with am := mx.am + c.motor }))
  ∧ ∀ (s : State) (v w : Fin 16),
    let kind (x : Voice) := (x.dest = .speaker → x.last.motor = 0)
      ∧ (x.dest = .motor → x.last.left = 0 ∧ x.last.right = 0)
    kind s.voices[w] → kind (s.frameVoice v).voices[w]

/-- The mixer tick. Each voice in use takes its staged parameters; E of a PLAYING voice advances by its phase, E
of a RELEASING voice falls and at 0 the voice ends with RELEASED; of the voices still in use, one with its
underrun mark set counts one more tick of starving and at the third ends with STARVED and its fault, one without
starts over; the notices come in that order, in ascending voice number; the marks are cleared, the motor value is
handed over, the frame counter returned. Then the driver's tick: the stale timer restarts and stale ends; once
the configuration is loaded the drive is scaled, the duty takes dead zone and cap, the target is taken, or
begins a brake against the last direction, or goes on with a brake, and nothing of it moves in CUTOFF and
DISABLED; the heat and derating follow, with the notices and the fault (R12, R14, R17, R35, R53, R54, R59 to
R61, R63, R64). -/
def Obligations.TickActs : Prop :=
  (∀ s : State, s.powered = true → 32 ≤ s.mx.frames →
    let released (v : Fin 16) : Bool :=
      s.voices[v].state == .releasing && decide (s.voices[v].level ≤ s.voices[v].release)
    let starved (v : Fin 16) : Bool :=
      s.voices[v].state != .free && !released v && s.mx.marks[v] && decide (2 ≤ s.voices[v].starve)
    let ended (u : State) (v : Fin 16) (r : EndReason) : State :=
      u.post s.voices[v].owner (.voiceEnded (mkHandle v s.voices[v].gen) r)
    let told := (voiceNumbers.filter fun v => released v && s.voices[v].notify).foldl
      (fun u v => ended u v .released) s
    let faulted := (voiceNumbers.filter starved).foldl
      (fun u v => (ended u v .starved).postFault .voiceStarved
        (match s.voices[v].owner with
          | .game => .game
          | .system => .system) (some v.val)) told
    ∃ u : State, exec .mixerTick s = .next u.rumbleTick
      ∧ u = { s with voices := u.voices, age := u.age, channels := u.channels, mx := u.mx
                     fl := faulted.fl, game := faulted.game, sys := faulted.sys }
      ∧ u.mx = { s.mx with
          marks := Vector.replicate 16 false, motorMix := s.mx.frameMotor, frames := 0 }
      ∧ u.age = (s.age.filter fun v => !(released v || starved v))
      ∧ ∀ v : Fin 16,
        let x := s.voices[v]
        let staged : Voice := { x with
          step := x.pendingStep.getD x.step, volume := x.pendingVolume.getD x.volume
          pan := x.pendingPan.getD x.pan
          pendingStep := none, pendingVolume := none, pendingPan := none }
        let moved : Voice := match x.state, x.phase with
          | .playing, some .attack => { staged with
              level := min 32767 (x.level + x.attack)
              phase := if 32767 ≤ x.level + x.attack then some .decay else some .attack }
          | .playing, some .decay => { staged with
              level := max (x.level - x.decay) x.sustain
              phase := if x.level - x.decay ≤ x.sustain then some .sustain else some .decay }
          | .releasing, _ => { staged with level := x.level - x.release }
          | _, _ => staged
        let gone (r : EndReason) : Voice :=
          { moved with state := .free, phase := none, endReason := some r, level := 0, starve := 0 }
        u.voices[v] = (if x.state = .free then x else if released v then gone .released
          else if starved v then gone .starved
          else { moved with starve := if s.mx.marks[v] then x.starve + 1 else 0 })
        ∧ u.channels[v] = (if released v || starved v then { s.channels[v] with
              state := .idle, fifo := [], skip := 0, discard := s.channels[v].inFlight }
            else s.channels[v]))
  ∧ (∀ s : State,
    let restarted : State := { s with rd := { s.rd with staleTimer := 819200, stale := false } }
    let told := if s.rd.stale then restarted.postMotor .staleOff else restarted
    let ticked : State := { told with rd := told.rd.tick s.bl.cfg s.mx.motorMix }
    (s.loaded = false → s.rumbleTick = told)
    ∧ (s.loaded = true → s.rumbleTick =
      if s.rd.derated = false ∧ ticked.rd.derated = true then
        (ticked.postMotor .derateOn).postFault .motorDerated .both none
      else if s.rd.derated = true ∧ ticked.rd.derated = false then ticked.postMotor .derateOff
      else ticked))
  ∧ (∀ (r : Rumble) (cfg : LoadedConfig) (d : Int),
    let size := d.natAbs * r.strength / 4
    let drive : Int := if d < 0 then -(size : Int) else size
    let full := size * cfg.pc / 32768
    let cap := cfg.pc * (if r.derated then min 40 cfg.dutyCap else cfg.dutyCap) / 100
    let duty := min (if full < cfg.tm then 0 else full) cap
    let target : Target := if duty = 0 ∨ drive = 0 then .coast else if 0 < drive then .fwd else .rev
    let asked : Rumble := { r with drive := drive, target := target }
    let take (q : Rumble) : Rumble := match target with
      | .coast => { q with state := .coast, duty := 0, pending := some (.coast, 0) }
      | .fwd => { q with state := .fwd, duty := duty, lastDir := .fwd, pending := some (.fwd, duty) }
      | .rev => { q with state := .rev, duty := duty, lastDir := .rev, pending := some (.rev, duty) }
    let hold (q : Rumble) : Rumble :=
      { q with state := .brake, duty := 0, pending := some (.brake, 0), remembered := target
               rememberedDuty := if target = .coast then 0 else duty }
    let against := target = .fwd ∧ r.lastDir = .rev ∨ target = .rev ∧ r.lastDir = .fwd
    let acted : Rumble := match r.state with
      | .cutoff => asked
      | .disabled => asked
      | .brake =>
        if r.brakeTimer ≤ 1 then
          take { asked with brakeTimer := 0, remembered := target, lastDir := .none
                            rememberedDuty := if target = .coast then 0 else duty }
        else hold { asked with brakeTimer := r.brakeTimer - 1 }
      | _ => if against then hold { asked with brakeTimer := max 1 cfg.tb } else take asked
    let applied := if acted.state = .fwd ∨ acted.state = .rev then acted.duty else 0
    let heat := min 262143 (r.heat + applied * 100 / cfg.pc - 30)
    r.tick cfg d = { acted with
      heat := heat
      derated := if r.derated then decide (100000 < heat) else decide (200000 ≤ heat) })

/-- MIX_LEVEL reports the clip count as it stood, then clears it and sets the requester's own level as asked,
and reports the settings after; a level above 255 is refused whole. DUCK_SET sets the clamped factor for the
system processor alone (R37, R38). -/
def Obligations.MixRequests : Prop :=
  (∀ (m : Master) (tag : Byte) (level : Option Word) (clear : Bool) (s : State), s.takes m .running →
    (∀ w, level = some w → w.toNat ≤ 255) →
    let own (old : Nat) (who : Master) : Nat :=
      if m = who then (match level with | some w => w.toNat | none => old) else old
    exec (.mixLevel m tag level clear) s = .next
      (({ s with mx := { s.mx with
          clip := if clear then 0 else s.mx.clip
          mg := own s.mx.mg .game
          ms := own s.mx.ms .system } } : State).withReply m 0x10 tag .ok
        (u16 s.mx.clip ++ u8 (own s.mx.mg .game) ++ u8 (own s.mx.ms .system) ++ u16 s.mx.dk
          ++ flag s.mx.duckLast)))
  ∧ (∀ (m : Master) (tag : Byte) (w : Word) (clear : Bool) (s : State), s.takes m .running →
    255 < w.toNat →
    exec (.mixLevel m tag (some w) clear) s = .next (s.withReply m 0x10 tag .range []))
  ∧ (∀ (tag : Byte) (f : Word) (s : State), s.takes .system .running →
    exec (.duckSet .system tag f) s = .next
      (({ s with mx := { s.mx with dk := min 256 f.toNat } } : State).withReply .system 0x11 tag .ok
        (u16 (min 256 f.toNat))))
  ∧ (∀ (tag : Byte) (f : Word) (s : State), s.takes .game .running →
    exec (.duckSet .game tag f) s = .next (s.withReply .game 0x11 tag .denied []))


/-! ## Sample fetch and the bus -/

/-- A fetch burst completes: with the discard mark set its bytes are dropped and the mark is cleared;
otherwise its bytes, less those the mixer has passed over, enter the FIFO, the channel is settled, a PRIMING
channel with 64 bytes or the last byte of a one-shot reports, and a KEYED voice becomes PLAYING on the report.
Then the arbiter decides (log entry 26). Without a fetch burst in flight nothing completes (log entry 2) (R11, R42,
R44, R46). -/
def Obligations.FetchBurstDelivers : Prop :=
  (∀ (s : State) (v : Fin 16) (addr len : Nat), s.powered = true →
    s.pma.inFlight = some (.fetch v addr len) → addr + len ≤ 16777216 →
    let c := s.channels[v]
    let x := s.voices[v]
    let fifo := c.fifo ++ (s.rom.readBytes romBlank addr len).drop c.skip
    let last := c.toEnd = 0 ∧ c.loopAddr = none
    let report := c.state = .priming ∧ (64 ≤ fifo.length ∨ last)
    exec .fetchBurstComplete s = .next (State.arbitrate
      (if c.discard = true then
        { s with
          pma := { s.pma with inFlight := none }
          channels := putAt s.channels v { c with discard := false, inFlight := false } }
      else
        { s with
          pma := { s.pma with inFlight := none }
          channels := putAt s.channels v { c with
            state := if report ∨ c.state = .streaming ∧ last then
              (if last then .drained else .streaming) else c.state
            fifo := fifo
            skip := c.skip - (s.rom.readBytes romBlank addr len).length
            inFlight := false }
          voices := putAt s.voices v (
            if report ∧ x.state = .keyed then
              (if x.attack = 0 then { x with state := .playing, phase := some .decay, level := 32767 }
              else { x with state := .playing, phase := some .attack })
            else x) })))
  ∧ (∀ s : State, (∀ v a l, s.pma.inFlight ≠ some (.fetch v a l)) →
      exec .fetchBurstComplete s = .next s)

/-- A grant decision with the bus free: the store engine when seven fetch bursts have passed it; otherwise the
boot loader, then the urgent channel of lowest fill and number, then the store engine, then the ready channel
of lowest fill and number; and what each grant does (R41, R48, R49). A channel is ready when it is PRIMING or
STREAMING, has no burst in flight, a fill of 96 or less and bytes left to fetch, and urgent when it is ready with
a fill below 48 (R45). A one-shot sample that ends on the last byte of a 16,777,216-byte ROM leaves the next address
just past it (log entry 43). The guard before the boot loader's rank is log entry 29 and is not stated. -/
def Obligations.GrantOrder : Prop :=
  (∀ c : Channel,
    (c.ready = true ↔ (c.state = .priming ∨ c.state = .streaming) ∧ c.inFlight = false
      ∧ c.fifo.length ≤ 96 ∧ 0 < c.toEnd)
    ∧ (c.urgent = true ↔ c.ready = true ∧ c.fifo.length < 48))
  ∧ ∀ s : State, s.powered = true → s.pma.inFlight = none →
    let boot := s.bl.phase = .loading ∧ s.bl.granted < 2
    let before (v w : Fin 16) := s.channels[v].fifo.length < s.channels[w].fifo.length
      ∨ s.channels[v].fifo.length = s.channels[w].fifo.length ∧ v ≤ w
    let fetch (v : Fin 16) : State :=
      let c := s.channels[v]
      let len := min 32 c.toEnd
      let size := s.voices[v].format.bytes
      { s with
        pma := { inFlight := some (.fetch v c.next len)
                 runCount := if s.ss.ops = [] then 0 else min 7 (s.pma.runCount + 1) }
        channels := putAt s.channels v (
          if 32 < c.toEnd then
            { c with next := c.next + len, toEnd := c.toEnd - len, inFlight := true }
          else match c.loopAddr with
            | none => { c with next := c.next + len, toEnd := 0, inFlight := true }
            | some a =>
              let pass := (s.voices[v].len - s.voices[v].loop.getD 0) * size
              { c with next := a, toEnd := pass, inFlight := true }) }
    (∀ op rest, s.ss.ops = op :: rest → ¬boot →
      s.pma.runCount = 7 ∨ (∀ v : Fin 16, s.channels[v].urgent = false) →
      s.arbitrate = { s with
        pma := { inFlight := some (.store op false), runCount := 0 }
        ss := { s.ss with ops := rest } })
    ∧ (boot → s.pma.runCount ≠ 7 ∨ s.ss.ops = [] →
      s.arbitrate = { s with
        pma := { s.pma with inFlight := some (.boot s.bl.granted false) }
        bl := { s.bl with granted := s.bl.granted + 1 } })
    ∧ (∀ v : Fin 16, ¬boot → s.pma.runCount ≠ 7 ∨ s.ss.ops = [] → s.channels[v].urgent = true →
      (∀ w : Fin 16, s.channels[w].urgent = true → before v w) → s.arbitrate = fetch v)
    ∧ (∀ v : Fin 16, ¬boot → s.ss.ops = [] → (∀ w : Fin 16, s.channels[w].urgent = false) →
      s.channels[v].ready = true →
      (∀ w : Fin 16, s.channels[w].ready = true → before v w) → s.arbitrate = fetch v)
    ∧ (¬boot → s.ss.ops = [] → (∀ w : Fin 16, s.channels[w].ready = false) → s.arbitrate = s)

/-! ## The rumble driver -/

/-- The rumble requests: the status to either master; the other three from the game processor refused with
DENIED; the resume by the latch and the cutoff input; the enable and the strength with the DISABLED condition
they begin or end, the notice to both masters, and the reply (R68 to R70, R72, in the layout of R174). MOTOR_STATE
goes to both masters, the game processor first, with its reason and the motor state, derated, stale, enabled, S and
the cutoff input level as they stand after the event (R73). The byte
of the cutoff input level is log entry 12, the remembered target as one field of three bytes log entry 13, the
notice before the reply log entry 35. -/
def Obligations.RumbleRequests : Prop :=
  (∀ (m : Master) (tag : Byte) (s : State), s.takes m .running →
    let r := s.rd
    let braking := r.state = .brake
    exec (.rumbleStatus m tag) s = .next (s.withReply m 0x1B tag .ok
      (u8 r.state.code ++ u16 r.duty ++ i16 r.drive ++ u8 r.target.code ++ u8 r.lastDir.code
        ++ optional 1 (if braking then some (u8 r.brakeTimer) else none)
        ++ optional 3 (if braking then some (u8 r.remembered.code ++ u16 r.rememberedDuty) else none)
        ++ u32 r.heat ++ flag r.derated
        ++ u16 (s.bl.cfg.pc * (if r.derated then min 40 s.bl.cfg.dutyCap else s.bl.cfg.dutyCap) / 100)
        ++ flag r.stale ++ flag r.enabled ++ u8 r.strength ++ u8 (if r.cutoffInput then 0 else 1)
        ++ flag (decide (r.state = .cutoff)))))
  ∧ (∀ (tag : Byte) (on : Bool) (x : Word) (s : State), s.takes .game .running →
    exec (.rumbleResume .game tag) s = .next (s.withReply .game 0x1A tag .denied [])
    ∧ exec (.rumbleEnable .game tag on) s = .next (s.withReply .game 0x18 tag .denied [])
    ∧ exec (.rumbleStrength .game tag x) s = .next (s.withReply .game 0x19 tag .denied []))
  ∧ (∀ (tag : Byte) (s : State), s.takes .system .running →
    let st : MotorState := if s.rd.enabled = false ∨ s.rd.strength = 0 then .disabled else .coast
    let r := { s.rd with state := st, duty := 0, driven := st, drivenDuty := 0 }
    exec (.rumbleResume .system tag) s = .next (
      if s.rd.state ≠ .cutoff then s.withReply .system 0x1A tag .ok (u8 s.rd.state.code)
      else if s.rd.cutoffInput = true then s.withReply .system 0x1A tag .cutoffActive []
      else (({ s with rd := r } : State).postMotor .resumed).withReply .system 0x1A tag .ok
        (u8 st.code)))
  ∧ (∀ (tag : Byte) (on : Bool) (x : Word) (s : State), s.takes .system .running →
    let turned (r : Rumble) : Rumble :=
      let was := s.rd.enabled = false ∨ s.rd.strength = 0
      let is := r.enabled = false ∨ r.strength = 0
      if r.state = .cutoff then r
      else if is ∧ ¬was then r.force s.bl.cfg.td .disabled
      else if was ∧ ¬is then
        { r with state := .coast, duty := 0, pending := none, driven := .coast, drivenDuty := 0 }
      else r
    let e := turned { s.rd with enabled := on }
    let g := turned { s.rd with strength := min 4 x.toNat }
    exec (.rumbleEnable .system tag on) s = .next (
      (if s.rd.enabled = on then ({ s with rd := e } : State)
      else ({ s with rd := e } : State).postMotor .enableChanged).withReply .system 0x18 tag .ok
        (flag on ++ u8 s.rd.strength ++ u8 e.state.code))
    ∧ exec (.rumbleStrength .system tag x) s = .next (
      (if s.rd.enabled = true ∧ (x.toNat = 0 ↔ s.rd.strength ≠ 0) then
        ({ s with rd := g } : State).postMotor .enableChanged
      else ({ s with rd := g } : State)).withReply .system 0x19 tag .ok
        (u8 (min 4 x.toNat) ++ u8 g.state.code)))
  ∧ ∀ (s : State) (reason : MotorReason),
    let n : Notice := .motorState reason s.rd.state s.rd.derated s.rd.stale s.rd.enabled s.rd.strength
      s.rd.cutoffInput
    s.postMotor reason = (s.post .game n).post .system n

/-- The cutoff input. Going active with no cutoff latched, it turns all four gates off, latches CUTOFF with
duty 0, drops the pending result, ends a brake, keeps the last direction, stale, derated, enabled and S, then
posts the notices and after them the fault. While a cutoff is latched each change posts INPUT_CHANGED; going
inactive with none latched it changes the level alone, as it does before the configuration is loaded; a level
it has already is no change. Every forced event of the driver, a cutoff, DISABLED or a stale expiry, turns all gates
off at once, each gate that was on leaving its leg's guard at Td naming it, with duty 0, the pending result dropped
and a brake ended (R55, R58, R62, R65, R66). -/
def Obligations.CutoffLatches : Prop :=
  (∀ (td : Nat) (st : MotorState) (r : Rumble),
    let off (l : LegState) : LegState :=
      { high := false, low := false
        guard := if l.low = true then ⟨td, some .low⟩ else if l.high = true then ⟨td, some .high⟩
          else l.guard }
    r.force td st = { r with
      state := st, duty := 0, pending := none, brakeTimer := 0, driven := st, drivenDuty := 0
      legA := off r.legA, legB := off r.legB })
  ∧ ∀ s : State,
    let level (on : Bool) : State := { s with rd := { s.rd with cutoffInput := on } }
    (s.powered = true → s.loaded = true → s.rd.cutoffInput = false → s.rd.state ≠ .cutoff →
      let r := (level true).rd.force s.bl.cfg.td .cutoff
      exec .cutoffInputActive s = .next
        ((({ s with rd := r } : State).postMotor .cutoffInput).postFault .motorCutoff .both none)
      ∧ r.legA.high = false ∧ r.legA.low = false ∧ r.legB.high = false ∧ r.legB.low = false
      ∧ r.state = .cutoff ∧ r.duty = 0 ∧ r.pending = none ∧ r.brakeTimer = 0
      ∧ r.lastDir = s.rd.lastDir ∧ r.stale = s.rd.stale ∧ r.derated = s.rd.derated
      ∧ r.enabled = s.rd.enabled ∧ r.strength = s.rd.strength ∧ r.cutoffInput = true)
    ∧ (s.powered = true → s.loaded = true → s.rd.state = .cutoff →
      (s.rd.cutoffInput = false →
        exec .cutoffInputActive s = .next ((level true).postMotor .inputChanged))
      ∧ (s.rd.cutoffInput = true →
        exec .cutoffInputInactive s = .next ((level false).postMotor .inputChanged)))
    ∧ (s.rd.state ≠ .cutoff → exec .cutoffInputInactive s = .next (level false))
    ∧ (s.powered = false ∨ s.loaded = false →
      exec .cutoffInputActive s = .next (level true)
      ∧ exec .cutoffInputInactive s = .next (level false))
    ∧ (s.rd.cutoffInput = true → exec .cutoffInputActive s = .next s)
    ∧ (s.rd.cutoffInput = false → exec .cutoffInputInactive s = .next s)

/-- One clock count: the carrier, the pending result taken up at a period start, the gates asked on by R57's table,
a gate asked off turned off with its leg's guard at Td naming it, any other guard down by one, a gate asked on turned
on where its guard names it or no gate or has run out, the stale timer down by one; at the count that ends it the
forced event after all that (log entry 40). A counter at or above the loaded Pc returns to 0 at its next count, which
begins a period (log entry 33). A timed event runs such counts (log entry 4), outside HELD. A carrier
period start brings the counter to 0 and, unless the stale timer runs out on the way, the pending result to the gates:
in FWD and REV the switched gate is then on for a duty above 0 and the other leg's low gate is on, with the other two
off; at a pulse's end the counter is at the duty and the switched gate is off, its guard at Td; a waiting gate turns
on when its guard's count has run out, a low gate of BRAKE, FWD or REV or a switched gate within its pulse; a gate
that has turned off keeps the other gate of its leg off for as many counts as its guard holds; at the stale timer's
end the drive goes to COAST with all gates off unless CUTOFF or DISABLED stands, and STALE_ON is posted; a brake whose
timer is 0 ends. Each touches the driver and, for the notice, the ports alone. In HELD the clock's counts do not reach
the driver (log entry 34), and a stale timer that does not run does not expire (log entry 2) (R57, R58, R61, R62, R71;
that BRAKE_END acts where a brake's timer stands at 0 is log entry 18). -/
def Obligations.BridgeTimers : Prop :=
  (∀ s : State, s.powered = true → s.bl.phase ≠ .held → ∃ t, exec .carrierPeriodStart s = .next t
    ∧ t = { s with rd := t.rd, game := t.game, sys := t.sys }
    ∧ t.rd = Rumble.clockCounts s.bl.cfg s.loaded (max 1 (s.bl.cfg.pc - s.rd.carrier)) s.rd
    ∧ t = (if t.rd.stale = true ∧ s.rd.stale = false then ({ s with rd := t.rd } : State).postMotor .staleOn
        else { s with rd := t.rd })
    ∧ t.rd.carrier = 0 ∧ t.rd.pending = none
    ∧ (s.rd.carrier < s.bl.cfg.pc →
      s.loaded = false ∨ s.rd.staleTimer = 0 ∨ s.bl.cfg.pc - s.rd.carrier < s.rd.staleTimer →
      t.game = s.game ∧ t.sys = s.sys
      ∧ (t.rd.driven, t.rd.drivenDuty) = s.rd.pending.getD (s.rd.driven, s.rd.drivenDuty)))
  ∧ (∀ s : State, s.powered = true → s.bl.phase ≠ .held → s.rd.driven = .fwd ∨ s.rd.driven = .rev →
    s.rd.carrier < s.rd.drivenDuty → s.rd.drivenDuty < s.bl.cfg.pc →
    ∃ t, exec .pwmPulseEnd s = .next t ∧ t = { s with rd := t.rd, game := t.game, sys := t.sys }
      ∧ t.rd = Rumble.clockCounts s.bl.cfg s.loaded (s.rd.drivenDuty - s.rd.carrier) s.rd
      ∧ t = (if t.rd.stale = true ∧ s.rd.stale = false then ({ s with rd := t.rd } : State).postMotor .staleOn
          else { s with rd := t.rd })
      ∧ t.rd.carrier = s.rd.drivenDuty
      ∧ (s.rd.driven = .fwd → t.rd.legA.high = false) ∧ (s.rd.driven = .rev → t.rd.legB.high = false)
      ∧ (s.loaded = false ∨ s.rd.staleTimer = 0 ∨ s.rd.drivenDuty - s.rd.carrier < s.rd.staleTimer →
        ∀ leg : Leg, (s.rd.driven = match leg with
            | .a => .fwd
            | .b => .rev) →
          (s.rd.leg leg).high = true → (s.rd.leg leg).low = false →
          (t.rd.leg leg).guard = ⟨s.bl.cfg.td, some .high⟩))
  ∧ (∀ (leg : Leg) (s : State), s.powered = true → s.bl.phase ≠ .held →
    ∃ t, exec (.deadTimeExpiry leg) s = .next t
    ∧ t = { s with rd := t.rd, game := t.game, sys := t.sys }
    ∧ t.rd = Rumble.clockCounts s.bl.cfg s.loaded (s.rd.leg leg).guard.count s.rd
    ∧ t = (if t.rd.stale = true ∧ s.rd.stale = false then ({ s with rd := t.rd } : State).postMotor .staleOn
        else { s with rd := t.rd })
    ∧ (s.rd.pending = none → (s.rd.leg leg).high = false → (s.rd.leg leg).low = false →
      0 < (s.rd.leg leg).guard.count →
      s.loaded = false ∨ s.rd.staleTimer = 0 ∨ (s.rd.leg leg).guard.count < s.rd.staleTimer →
      ((s.rd.driven = .brake ∨ s.rd.driven = match leg with
          | .a => .rev
          | .b => .fwd) → (s.rd.leg leg).guard.last = some .high →
        (t.rd.leg leg).guard.count = 0 ∧ (t.rd.leg leg).low = true ∧ (t.rd.leg leg).high = false)
      ∧ ((s.rd.driven = match leg with
          | .a => .fwd
          | .b => .rev) → (s.rd.leg leg).guard.last = some .low →
        s.rd.carrier + (s.rd.leg leg).guard.count < s.rd.drivenDuty → s.rd.drivenDuty ≤ s.bl.cfg.pc →
        (t.rd.leg leg).guard.count = 0 ∧ (t.rd.leg leg).high = true ∧ (t.rd.leg leg).low = false)))
  ∧ (∀ (leg : Leg) (d : Nat) (s : State), s.powered = true → s.bl.phase ≠ .held →
    let other : Leg := match leg with
      | .a => .b
      | .b => .a
    let way : MotorState := match leg with
      | .a => .fwd
      | .b => .rev
    let n := s.bl.cfg.pc - s.rd.carrier
    s.rd.carrier < s.bl.cfg.pc → s.loaded = false ∨ s.rd.staleTimer = 0 ∨ n < s.rd.staleTimer →
    s.rd.driven = .coast ∨ s.rd.driven = way →
    s.rd.pending.getD (s.rd.driven, s.rd.drivenDuty) = (way, d) →
    (s.rd.leg leg).low = false → (s.rd.leg other).high = false →
    (s.rd.leg leg).guard.last ≠ some .low ∨ (s.rd.leg leg).guard.count ≤ n →
    (s.rd.leg other).guard.last ≠ some .high ∨ (s.rd.leg other).guard.count ≤ n →
    ∃ t, exec .carrierPeriodStart s = .next t
      ∧ (t.rd.leg leg).high = decide (0 < d) ∧ (t.rd.leg leg).low = false
      ∧ (t.rd.leg other).high = false ∧ (t.rd.leg other).low = true)
  ∧ (∀ (cfg : LoadedConfig) (loaded : Bool) (r : Rumble), loaded = false ∨ r.staleTimer ≠ 1 →
    let t := r.clockCount cfg loaded
    let carrier := if r.carrier + 1 < cfg.pc then r.carrier + 1 else 0
    let driven := if carrier = 0 then r.pending.getD (r.driven, r.drivenDuty)
      else (r.driven, r.drivenDuty)
    let asked (leg : Leg) (side : Side) : Bool := match driven.1, leg, side with
      | .fwd, .a, .high => decide (carrier < driven.2)
      | .fwd, .b, .low => true
      | .rev, .b, .high => decide (carrier < driven.2)
      | .rev, .a, .low => true
      | .brake, _, .low => true
      | _, _, _ => false
    t = { r with
        carrier := carrier, driven := driven.1, drivenDuty := driven.2
        pending := if carrier = 0 then none else r.pending
        staleTimer := if loaded = true then r.staleTimer - 1 else r.staleTimer
        legA := t.legA, legB := t.legB }
    ∧ ∀ leg : Leg,
      let l := r.leg leg
      let u := t.leg leg
      let free (side : Side) := u.guard.last = none ∨ u.guard.last = some side ∨ u.guard.count = 0
      ¬(l.high = true ∧ l.low = true) →
      u.guard = (if l.high = true ∧ asked leg .high = false then ⟨cfg.td, some .high⟩
        else if l.low = true ∧ asked leg .low = false then ⟨cfg.td, some .low⟩
        else ⟨l.guard.count - 1, l.guard.last⟩)
      ∧ (u.high = true ↔ asked leg .high = true ∧ (l.high = true ∨ free .high))
      ∧ (u.low = true ↔ asked leg .low = true ∧ (l.low = true ∨ free .low)))
  ∧ (∀ (cfg : LoadedConfig) (r : Rumble), r.staleTimer = 1 →
    let u : Rumble := { r.clockCount cfg false with stale := true, staleTimer := 0 }
    r.clockCount cfg true =
      if r.state = .cutoff ∨ r.state = .disabled then u else u.force cfg.td .coast)
  ∧ (∀ (cfg : LoadedConfig) (loaded : Bool) (n : Nat) (r : Rumble),
    Rumble.clockCounts cfg loaded 0 r = r
    ∧ Rumble.clockCounts cfg loaded (n + 1) r = Rumble.clockCounts cfg loaded n (r.clockCount cfg loaded))
  ∧ (∀ (cfg : LoadedConfig) (loaded : Bool) (n : Nat) (leg : Leg) (r : Rumble),
    n < (r.leg leg).guard.count → (r.leg leg).guard.count ≤ cfg.td →
    ((r.leg leg).low = false → (r.leg leg).guard.last = some .high →
      ((Rumble.clockCounts cfg loaded n r).leg leg).low = false)
    ∧ ((r.leg leg).high = false → (r.leg leg).guard.last = some .low →
      ((Rumble.clockCounts cfg loaded n r).leg leg).high = false))
  ∧ (∀ s : State, s.powered = true → s.loaded = true → 0 < s.rd.staleTimer → s.rd.stale = false →
    ∃ t, exec .staleTimerExpiry s = .next t
      ∧ t = ({ s with rd := t.rd } : State).postMotor .staleOn
      ∧ t.rd = Rumble.clockCounts s.bl.cfg true s.rd.staleTimer s.rd
      ∧ t.rd.stale = true ∧ t.rd.staleTimer = 0
      ∧ (s.rd.carrier < s.bl.cfg.pc →
        t.rd.carrier = (s.rd.carrier + s.rd.staleTimer) % s.bl.cfg.pc)
      ∧ t.rd.drive = s.rd.drive ∧ t.rd.target = s.rd.target ∧ t.rd.lastDir = s.rd.lastDir
      ∧ t.rd.heat = s.rd.heat ∧ t.rd.derated = s.rd.derated ∧ t.rd.enabled = s.rd.enabled
      ∧ t.rd.strength = s.rd.strength ∧ t.rd.cutoffInput = s.rd.cutoffInput
      ∧ (s.rd.state = .cutoff ∨ s.rd.state = .disabled →
        t.rd.state = s.rd.state ∧ t.rd.duty = s.rd.duty)
      ∧ (s.rd.state ≠ .cutoff → s.rd.state ≠ .disabled →
        t.rd.state = .coast ∧ t.rd.duty = 0 ∧ t.rd.pending = none ∧ t.rd.brakeTimer = 0
        ∧ t.rd.legA.high = false ∧ t.rd.legA.low = false ∧ t.rd.legB.high = false
        ∧ t.rd.legB.low = false))
  ∧ (∀ s : State, s.powered = true → s.loaded = true → s.rd.state = .brake → s.rd.brakeTimer = 0 →
    let took (st : MotorState) (duty : Nat) (d : Direction) : Rumble :=
      { s.rd with state := st, duty := duty, lastDir := d, pending := some (st, duty) }
    exec .brakeEnd s = .next { s with rd := match s.rd.remembered with
      | .coast => took .coast 0 .none
      | .fwd => took .fwd s.rd.rememberedDuty .fwd
      | .rev => took .rev s.rd.rememberedDuty .rev })
  ∧ (∀ (leg : Leg) (s : State), s.bl.phase = .held →
    exec .carrierPeriodStart s = .next s ∧ exec .pwmPulseEnd s = .next s
    ∧ exec (.deadTimeExpiry leg) s = .next s)
  ∧ (∀ s : State, s.loaded = false ∨ s.rd.staleTimer = 0 → exec .staleTimerExpiry s = .next s)

/-- The high and low gates of a leg are never on together, a gate that is on is one its guard allows, and a
guard's count is at most Td (R58); until the configuration is loaded no gate is on or asked on. Every step keeps
this. -/
def Obligations.BridgeNeverShorts : Prop :=
  ∀ s t : State, s.bridgeSafe → step s = .next t → t.bridgeSafe

/-! ## The game clock -/

/-- The clock requests other than RATE_CHECK: the reading to either master, all from one reading of the
battery domain; the three settings from the game processor refused with DENIED; a zone out of range and a date
that fails its checks refused with RANGE; a zone and a date taken, followed by the day evaluation with its
notice; the trim clamped into the pending trim (R78, R80, R82, R85 to R89, in the layout of R174). The calendar, the
days to a date and the month lengths are R79's, as CalendarInverts states them. The byte of
the battery level is log entry 12, the bare pending trim of TRIM_SET log entry 13, the notice before the reply
log entry 35. -/
def Obligations.ClockRequests : Prop :=
  (∀ (m : Master) (tag : Byte) (s : State), s.takes m .clock →
    let ls := ((s.bd.sec : Int) + s.bd.zone * 900).toNat
    let c := calendar ls
    let g := if ls < s.bl.cfg.boundary then 0 else (ls - s.bl.cfg.boundary) / 86400
    exec (.clockRead m tag) s = .next (s.withReply m 0x20 tag .ok
      (u16 c.year ++ u8 c.month ++ u8 c.day ++ u8 c.hour ++ u8 c.minute ++ u8 c.second ++ u8 c.weekday
        ++ u16 (max g s.bd.dhw) ++ flag s.bd.valid ++ flag (decide (g < s.bd.dhw))
        ++ u8 (if s.bm.weak then 1 else 0) ++ flag s.bm.lostAtPowerUp ++ u32 s.bd.sec ++ i8 s.bd.zone
        ++ i8 s.bd.trim ++ optional 1 (s.bd.pendingTrim.map i8))))
  ∧ (∀ (tag : Byte) (d : ClockFields) (z : Byte) (w : Word) (s : State), s.takes .game .clock →
    exec (.clockSet .game tag d) s = .next (s.withReply .game 0x21 tag .denied [])
    ∧ exec (.zoneSet .game tag z) s = .next (s.withReply .game 0x22 tag .denied [])
    ∧ exec (.trimSet .game tag w) s = .next (s.withReply .game 0x23 tag .denied []))
  ∧ (∀ (tag : Byte) (z : Byte) (s : State), s.takes .system .clock →
    let ls := ((s.bd.sec : Int) + z.toInt * 900).toNat
    let c := calendar ls
    let g := if ls < s.bl.cfg.boundary then 0 else (ls - s.bl.cfg.boundary) / 86400
    let set : State := { s with bd := { s.bd with zone := z.toInt, dhw := max s.bd.dhw g } }
    exec (.zoneSet .system tag z) s = .next (
      if -48 ≤ z.toInt ∧ z.toInt ≤ 56 then
        (if s.bd.dhw < g ∧ s.bd.valid = true then set.post .game (.dayTurned s.bd.dhw g)
        else set).withReply .system 0x22 tag .ok
          (i8 z.toInt ++ u16 c.year ++ u8 c.month ++ u8 c.day ++ u8 c.hour ++ u8 c.minute ++ u8 c.second
            ++ u16 (max g s.bd.dhw) ++ flag (decide (g < s.bd.dhw)))
      else s.withReply .system 0x22 tag .range []))
  ∧ (∀ (tag : Byte) (w : Word) (s : State), s.takes .system .clock →
    let t := max (-128) (min 127 w.toInt)
    exec (.trimSet .system tag w) s = .next
      (({ s with bd := { s.bd with pendingTrim := some t } } : State).withReply .system 0x23 tag .ok
        (i8 s.bd.trim ++ i8 t)))
  ∧ (∀ (tag : Byte) (d : ClockFields) (s : State), s.takes .system .clock →
    let sec : Int := (daysTo d.year.toNat d.month.toNat d.day.toNat * 86400 + d.hour.toNat * 3600
      + d.minute.toNat * 60 + d.second.toNat : Nat) - s.bd.zone * 900
    let ls := (sec + s.bd.zone * 900).toNat
    let g := if ls < s.bl.cfg.boundary then 0 else (ls - s.bl.cfg.boundary) / 86400
    let set : State := { s with bd := { s.bd with
      sec := sec.toNat, prescaler := 0, hold := 0, minute := d.second.toNat, valid := true
      dhw := max s.bd.dhw g } }
    exec (.clockSet .system tag d) s = .next (
      if 2000 ≤ d.year.toNat ∧ d.year.toNat ≤ 2135 ∧ 1 ≤ d.month.toNat ∧ d.month.toNat ≤ 12
          ∧ 1 ≤ d.day.toNat ∧ d.day.toNat ≤ monthLength d.year.toNat d.month.toNat
          ∧ d.hour.toNat ≤ 23 ∧ d.minute.toNat ≤ 59 ∧ d.second.toNat ≤ 59 ∧ 0 ≤ sec then
        (if s.bd.dhw < g then set.post .game (.dayTurned s.bd.dhw g) else set).withReply .system 0x21 tag
          .ok (u32 sec.toNat ++ u16 (max g s.bd.dhw) ++ flag (decide (g < s.bd.dhw)))
      else s.withReply .system 0x21 tag .range []))

/-- The rate check: taken, it arms and keeps its reply slot; refused with DENIED, RANGE or BUSY otherwise. An
edge starts the count, each later edge is counted and restarts the gap timer, and the last brings OK with the
ticks; the gap timer's end brings TIMEOUT with the counts as they stood (R90 to R92; that RATE_CHECK_TIMEOUT runs
the crystal to that end, so that the ticks of the gap left are counted, is log entry 4). -/
def Obligations.RateCheckRuns : Prop :=
  (∀ (tag : Byte) (n : Word) (s : State), s.takes .system .clock →
    exec (.rateCheck .system tag n) s = .next (
      if n.toNat < 2 then s.withReply .system 0x24 tag .range []
      else if s.gc.rate ≠ .idle then s.withReply .system 0x24 tag .busy []
      else { s with
        gc := { s.gc with
          rate := .armed, target := n.toNat, edges := 0, ticks := 0, gap := 32768, tag := tag }
        sys := { s.sys with q := { s.sys.q with reserved := s.sys.q.reserved + 1 } } }))
  ∧ (∀ (tag : Byte) (n : Word) (s : State), s.takes .game .clock →
    exec (.rateCheck .game tag n) s = .next (s.withReply .game 0x24 tag .denied []))
  ∧ (∀ s : State, s.powered = true → s.gc.rate = .idle → exec .frameSyncEdge s = .next s)
  ∧ (∀ s : State, s.powered = true → s.gc.rate = .armed →
    exec .frameSyncEdge s = .next { s with gc := { s.gc with rate := .counting, gap := 32768 } })
  ∧ (∀ s : State, s.powered = true → s.gc.rate = .counting → s.gc.edges + 1 ≠ s.gc.target →
    exec .frameSyncEdge s =
      .next { s with gc := { s.gc with edges := s.gc.edges + 1, gap := 32768 } })
  ∧ (∀ s : State, s.powered = true → s.gc.rate = .counting → s.gc.edges + 1 = s.gc.target →
    exec .frameSyncEdge s = .next
      (({ s with gc := { s.gc with edges := s.gc.edges + 1, gap := 32768, rate := .idle } } :
        State).reply .system { kind := 0x24, tag := s.gc.tag, code := .ok
                               result := u16 s.gc.target ++ u32 s.gc.ticks }))
  ∧ (∀ s : State, s.powered = true → s.clockSafe → s.gc.rate ≠ .idle → s.gc.gap ≤ 32768 →
    ∃ t, exec .rateCheckTimeout s = .next t ∧ t.gc.rate = .idle
      ∧ t.sys.q.replies.map (·.2) = s.sys.q.replies.map (·.2)
        ++ [{ kind := 0x24, tag := s.gc.tag, code := .timeout
              result := u16 s.gc.target ++ u16 s.gc.edges
                ++ u32 (if s.gc.rate = .counting then s.gc.ticks + s.gc.gap else s.gc.ticks) }])

/-- A second boundary: SEC and the minute count rise; at a minute boundary the pending trim is taken and the
next second has its trimmed length; while the console domain runs, a minute boundary in LOADING or LOADED sets
the battery level, BATTERY_WEAK posted once for a power-up, and the day evaluation, where active, raises DHW, with
DAY_TURNED to the game processor while the date is valid. A minute boundary is the second boundary that brings the
minute count to 0. The ticks up to the boundary are counted for a running rate check, or end it with TIMEOUT when
its gap timer runs out among them (R75, R76, R82, R91, R92, R153; that a command runs the crystal to its boundary
is log entry 4, the order of TIMEOUT, BATTERY_WEAK and DAY_TURNED log entry 30, the battery reading log entry 9). -/
def Obligations.Boundaries : Prop :=
  (∀ (weak : Bool) (s : State), s.bm.supply ≠ .batteryLost →
    let sec := if s.bd.sec < 4294967295 then s.bd.sec + 1 else s.bd.sec
    let minute := if s.bd.minute < 59 then s.bd.minute + 1 else 0
    let trim := if minute = 0 then s.bd.pendingTrim.getD s.bd.trim else s.bd.trim
    let ls := ((sec : Int) + s.bd.zone * 900).toNat
    let g := if ls < s.bl.cfg.boundary then 0 else (ls - s.bl.cfg.boundary) / 86400
    ∃ t, exec (.secondBoundary weak) s = .next t
      ∧ t.bd = { s.bd with
          sec := sec
          minute := minute
          trim := trim
          pendingTrim := if minute = 0 then none else s.bd.pendingTrim
          prescaler := if minute = 0 then trim.toNat else 0
          hold := if minute = 0 then (-trim).toNat else 0
          dhw := if s.powered = true ∧ s.gc.dayEval = true then max s.bd.dhw g else s.bd.dhw }
      ∧ t.bm.weak = (if s.powered = true ∧ minute = 0
          ∧ (s.bl.phase = .loading ∨ s.bl.phase = .loaded) then weak else s.bm.weak)
      ∧ t = { s with bd := t.bd, bm := t.bm, gc := t.gc, fl := t.fl, game := t.game, sys := t.sys }
      ∧ (s.powered = false → t = { s with bd := t.bd }))
  ∧ (∀ (weak : Bool) (s : State), s.bm.supply ≠ .batteryLost → s.clockSafe →
    ∃ t, exec (.minuteBoundary weak) s = .next t
      ∧ t.bd.minute = 0 ∧ t.bd.sec = min 4294967295 (s.bd.sec + (60 - s.bd.minute))
      ∧ t.bd.trim = s.bd.pendingTrim.getD s.bd.trim ∧ t.bd.pendingTrim = none
      ∧ (s.powered = true → s.bl.phase = .loaded → t.bm.weak = weak)
      ∧ t = { s with bd := t.bd, bm := t.bm, gc := t.gc, fl := t.fl, game := t.game, sys := t.sys })
  ∧ (∀ (weak : Bool) (s : State), s.powered = true →
    let u := s.rateTicks (s.bd.hold + (32768 - s.bd.prescaler))
    let sec := if s.bd.sec < 4294967295 then s.bd.sec + 1 else s.bd.sec
    let minute := if s.bd.minute < 59 then s.bd.minute + 1 else 0
    let trim := if minute = 0 then s.bd.pendingTrim.getD s.bd.trim else s.bd.trim
    let ls := ((sec : Int) + s.bd.zone * 900).toNat
    let g := if ls < s.bl.cfg.boundary then 0 else (ls - s.bl.cfg.boundary) / 86400
    let begun : State := { u with bd := { s.bd with
      sec := sec
      minute := minute
      trim := trim
      pendingTrim := if minute = 0 then none else s.bd.pendingTrim
      prescaler := if minute = 0 then trim.toNat else 0
      hold := if minute = 0 then (-trim).toNat else 0 } }
    let looked : State := { begun with bm := { s.bm with
      weak := weak, weakLogged := s.bm.weakLogged || weak } }
    let checked :=
      if minute = 0 ∧ (s.bl.phase = .loading ∨ s.bl.phase = .loaded) then
        (if weak = true ∧ s.bm.weakLogged = false then looked.postFault .batteryWeak .both none
        else looked)
      else begun
    let turned : State := { checked with bd := { checked.bd with dhw := g } }
    exec (.secondBoundary weak) s = .next (
      if s.gc.dayEval = true ∧ s.bd.dhw < g then
        (if s.bd.valid = true then turned.post .game (.dayTurned s.bd.dhw g) else turned)
      else checked))
  ∧ (∀ (n : Nat) (s : State), s.powered = true →
    let ticks (k : Nat) := if s.gc.rate = .counting then s.gc.ticks + k else s.gc.ticks
    (s.gc.rate = .idle → s.rateTicks n = s)
    ∧ (s.gc.rate ≠ .idle → n < s.gc.gap → s.rateTicks n =
      { s with gc := { s.gc with ticks := ticks n, gap := s.gc.gap - n } })
    ∧ (s.gc.rate ≠ .idle → s.gc.gap ≤ n → s.rateTicks n =
      ({ s with gc := { s.gc with rate := .idle, ticks := ticks s.gc.gap, gap := 0 } } : State).reply
        .system { kind := 0x24, tag := s.gc.tag, code := .timeout
                  result := u16 s.gc.target ++ u16 s.gc.edges ++ u32 (ticks s.gc.gap) }))

/-- The calendar gives back the date and time that a CLOCK_SET in range names. Every local second of the clock's range
has the date whose days from 2000-01-01, day 0 and a Saturday, are its day number, its time of day, and the weekday
(days + 6) mod 7; a year has 366 days when divisible by 4 and not by 100, or by 400, and 365 otherwise, and the months
have their lengths, February 29 days in a leap year (R79, R86). -/
def Obligations.CalendarInverts : Prop :=
  (∀ ls : Nat, ls ≤ 4295017695 →
    let c := calendar ls
    daysTo c.year c.month c.day = ls / 86400 ∧ 2000 ≤ c.year ∧ c.year ≤ 2136 ∧ 1 ≤ c.month ∧ c.month ≤ 12
    ∧ 1 ≤ c.day ∧ c.day ≤ monthLength c.year c.month
    ∧ c.hour = ls % 86400 / 3600 ∧ c.minute = ls % 86400 % 3600 / 60 ∧ c.second = ls % 86400 % 60
    ∧ c.weekday = (ls / 86400 + 6) % 7)
  ∧ calendar 0 = { year := 2000, month := 1, day := 1, hour := 0, minute := 0, second := 0, weekday := 6 }
  ∧ (∀ y : Nat,
    let leap := y % 4 = 0 ∧ (y % 100 ≠ 0 ∨ y % 400 = 0)
    ((List.range 12).map fun i => monthLength y (i + 1)) =
      [31, if leap then 29 else 28, 31, 30, 31, 30, 31, 31, 30, 31, 30, 31]
    ∧ (2000 ≤ y → daysTo (y + 1) 1 1 = daysTo y 1 1 + if leap then 366 else 365)
    ∧ (∀ m, 1 ≤ m → m < 12 → daysTo y (m + 1) 1 = daysTo y m 1 + monthLength y m)
    ∧ ∀ m d, 1 ≤ m → m ≤ 12 → 1 ≤ d → daysTo y m d = daysTo y m 1 + (d - 1))
  ∧ daysTo 2000 1 1 = 0
  ∧ ∀ d : ClockFields, datePasses d = true →
    let c := calendar (dateSeconds d)
    c.year = d.year.toNat ∧ c.month = d.month.toNat ∧ c.day = d.day.toNat ∧ c.hour = d.hour.toNat
      ∧ c.minute = d.minute.toNat ∧ c.second = d.second.toNat

/-- DHW is never lowered: only a battery-domain restart sets it to 0, its own command or a power-up that finds
the battery lost (R81, R150). That it stands in BATTERY_LOST until then is log entry 45. -/
def Obligations.DhwNeverLowered : Prop :=
  ∀ s t : State, step s = .next t → (∀ rest, s.pending ≠ .batteryDomainRestart :: rest) →
    (∀ weak rest, s.pending = .consolePowerUp weak :: rest → s.bm.supply ≠ .batteryLost) →
    s.bd.dhw ≤ t.bd.dhw

/-- The battery domain's items stay in their ranges (R74), and the write gate is open exactly while the console
supply is present (R155). Every step keeps both. That the items stand in BATTERY_LOST is log entry 45. -/
def Obligations.BatteryDomainKept : Prop :=
  ∀ s t : State, s.clockSafe → s.gateSafe → step s = .next t → t.clockSafe ∧ t.gateSafe

/-! ## The memories -/

/-- Both memories stay in canonical form, the model's own form of their contents (log entry 6). Every step keeps
this. And every step keeps the store safe: the chains of the working directory and the reservations hold no block
twice and data blocks alone (R106, R107), and a page write in flight is never of the active page (6.2, R98,
R101), with the states of transactions, copy, commit queue and mount that these rest on (R99, R100, R113, R117,
R119, R121, R127). -/
def Obligations.MemoryCanonical : Prop :=
  (∀ s t : State, s.memorySafe → step s = .next t → t.memorySafe)
  ∧ ∀ s t : State, s.storeSafe → step s = .next t → t.storeSafe

/-- The sample ROM never changes, and a byte of SRAM changes in a step only where the write burst in flight lies
while the console supply is present and the write gate open, at the last byte of the page write in flight when the
supply fails (log entry 8), or when the contents are lost in BATTERY_LOST. A burst whose work has ended completes
without any other effect than its bytes, if it writes any (log entry 39), and then comes the grant decision (log
entry 26) (R50, R118, R150, R155). -/
def Obligations.OnlyBurstsWriteSram : Prop :=
  (∀ s t : State, s.memorySafe → step s = .next t → t.rom = s.rom ∧
    ∀ a, t.sram.read sramBlank a ≠ s.sram.read sramBlank a →
      (∃ rest, s.pending = .sramContentsLost :: rest ∧ s.bm.supply = .batteryLost)
      ∨ s.powered = true ∧ s.bd.gateOpen = true ∧ (∃ op d bytes,
          s.pma.inFlight = some (.store op d) ∧ op.bytes = some bytes
          ∧ op.addr ≤ a ∧ a < op.addr + max 32 bytes.length)
      ∨ s.powered = true ∧ ∃ able rest w, s.pending = .supplyFailing able :: rest
          ∧ s.ss.pageWrite = some w ∧ a = checkEnd w.target)
  ∧ (∀ (s : State) (op : StoreOp), s.storeInFlight op true →
      exec (completionOf op.owner) s = .next (s.burstDone op).arbitrate)

/-! ## The save store -/

/-- STORE_INFO and SLOT_INFO report as R110 and R111 list, in the layouts of R174, and change nothing; the five
block sets of STORE_INFO hold the 496 data blocks between them. A block stands in the set that R106 gives it: in a
chain and dropped by the page write in flight, in a chain, held by a transaction or the copy, pinned by a reader,
or none of these; four readers can pin it (R109). The counts of slots are those VALID and those DAMAGED, and the
elapsed days count from the game day (R80). The codes of the battery level, the mount result
and the active page are log entry 12; the header Ng of no mount and the order of the block sets log entry 13. -/
def Obligations.StoreReports : Prop :=
  (∀ (m : Master) (tag : Byte) (s : State), s.takes m .store →
    let ss := s.ss
    exec (.storeInfo m tag) s = .next (s.withReply m 0x30 tag .ok
      (u8 ss.state.code ++ u8 (mountResultCode ss.result) ++ u8 (activePageCode ss.active)
        ++ u32 ss.dir.gen ++ u8 (ss.headerNg.getD 0) ++ u8 s.bl.cfg.ng
        ++ u16 (ss.setCount .committingReleased) ++ u16 (ss.setCount .chained)
        ++ u16 (ss.setCount .reserved) ++ u16 (ss.setCount .pinnedReleased) ++ u16 (ss.setCount .free)
        ++ u8 (ss.dir.countState .valid) ++ u8 (ss.dir.countState .damaged)
        ++ u8 (ss.commits.length + (match ss.copy with
          | none => 0
          | some c => if c.queued then 0 else 1))
        ++ flag ss.pageWrite.isSome ++ u16 (min (ss.setCount .free * 256) s.bl.cfg.maxLength)
        ++ u8 (if s.bm.weak then 1 else 0) ++ flag s.bm.lostAtPowerUp)))
  ∧ (∀ ss : Store, ss.setCount .committingReleased + ss.setCount .chained + ss.setCount .reserved
      + ss.setCount .pinnedReleased + ss.setCount .free = 496)
  ∧ (∀ (ss : Store) (b : Nat),
    let chained := ∃ (slot : Fin 32) (x : SlotBody), ss.dir.slots[slot].body = some x ∧ b ∈ x.chain
    let dropped := ∃ w, ss.pageWrite = some w ∧ b ∈ w.released
    let reserved := (∃ m t, ss.txn m = some t ∧ b ∈ t.reservation)
      ∨ ∃ c, ss.copy = some c ∧ b ∈ c.reservation
    let pinned := (∃ m c, ss.cursor m = some c ∧ b ∈ c.chain) ∨ (∃ c, ss.copy = some c ∧ b ∈ c.chain)
      ∨ ∃ v c, ss.verify = some v ∧ v.current = some c ∧ b ∈ c.chain
    (ss.blockSet b = .committingReleased ↔ chained ∧ dropped)
    ∧ (ss.blockSet b = .chained ↔ chained ∧ ¬dropped)
    ∧ (ss.blockSet b = .reserved ↔ ¬chained ∧ reserved)
    ∧ (ss.blockSet b = .pinnedReleased ↔ ¬chained ∧ ¬reserved ∧ pinned)
    ∧ (ss.blockSet b = .free ↔ ¬chained ∧ ¬reserved ∧ ¬pinned)
    ∧ (0 < ss.pins b ↔ pinned) ∧ ss.pins b ≤ 4)
  ∧ (∀ (ss : Store) (k : BlockSet),
    ss.setCount k = ((List.range 496).filter fun i => ss.blockSet (16 + i) == k).length)
  ∧ (∀ d : Directory,
    let counted (damaged : Bool) := ((List.finRange 32).filter fun (i : Fin 32) =>
      (d.slots[i].body.map fun x => x.damaged) == some damaged).length
    d.countState .valid = counted false ∧ d.countState .damaged = counted true)
  ∧ (∀ s : State,
    let ls := ((s.bd.sec : Int) + s.bd.zone * 900).toNat
    let g := if ls < s.bl.cfg.boundary then 0 else (ls - s.bl.cfg.boundary) / 86400
    s.gameDay = max g s.bd.dhw)
  ∧ (∀ (m : Master) (tag b : Byte) (slot : Fin 32) (s : State), s.takes m .store →
    b.toNat = slot.val → m = .system ∨ slot.val < s.bl.cfg.ng ∨ s.bl.cfg.visible = true →
    let e := s.ss.dir.slots[slot]
    (e.body = none →
      exec (.slotInfo m tag b) s = .next (s.withReply m 0x31 tag .ok
        ([0] ++ u16 e.serial ++ flag e.locked ++ List.replicate 20 0)))
    ∧ ∀ x, e.body = some x →
      exec (.slotInfo m tag b) s = .next (s.withReply m 0x31 tag .ok
        (u8 (if x.damaged then 2 else 1) ++ u16 e.serial ++ flag e.locked ++ (1 :: u16 x.length)
          ++ (1 :: u32 x.seconds) ++ (1 :: u16 x.day) ++ (1 :: u8 x.writer.code)
          ++ (1 :: u8 x.chain.length)
          ++ optional 1 (if x.writer = .copy then x.copiedFrom.map u8 else none)
          ++ optional 2 (if x.damaged then none else some (u16 (s.gameDay - x.day))))))

/-- A store request that wants a right the requester lacks is answered DENIED, ACCESS_DENIED is logged with the
requester and the slot, and nothing else changes; a slot above 31 is refused with RANGE before the rights
(R111, R123, R124, R126, R128, R137, R138, R140). A verify of more than one slot logs no subject (R131). -/
def Obligations.RightsRefuse : Prop :=
  (∀ (m : Master) (tag b : Byte) (slot : Fin 32) (q : Req) (c : Instr) (s : State), s.takes m .store →
    b.toNat = slot.val → requestCommand m tag q = some c →
    let own := if m = .game then slot.val < s.bl.cfg.ng else s.bl.cfg.ng ≤ slot.val
    let reads := m = .system ∨ slot.val < s.bl.cfg.ng ∨ s.bl.cfg.visible = true
    ((∃ len, q = .saveOpen b len) ∧ ¬own
      ∨ (q = .slotInfo b ∨ q = .loadOpen b ∨ q = .storeVerify 0 b) ∧ ¬reads
      ∨ q = .slotErase b ∧ m = .game ∧ s.bl.cfg.ng ≤ slot.val
      ∨ (∃ on, q = .slotLock b on) ∧ m = .game
      ∨ (∃ d : Byte, d.toNat < 32 ∧ q = .slotCopy b d) ∧ ¬reads
      ∨ (∃ x : Byte, x.toNat < 32 ∧ (x.toNat < s.bl.cfg.ng ∨ s.bl.cfg.visible = true)
          ∧ q = .slotCopy x b) ∧ m = .game) →
    exec c s = .next ((s.withReply m q.kind tag .denied []).postFault .accessDenied
      (match m with
        | .game => .game
        | .system => .system) (some slot.val)))
  ∧ (∀ (m : Master) (tag b : Byte) (q : Req) (c : Instr) (s : State), s.takes m .store → 32 ≤ b.toNat →
    requestCommand m tag q = some c →
    ((∃ len, q = .saveOpen b len) ∨ q = .slotInfo b ∨ q = .loadOpen b ∨ q = .storeVerify 0 b
      ∨ q = .slotErase b ∨ (∃ on, q = .slotLock b on) ∨ (∃ d, q = .slotCopy b d)
      ∨ ∃ x, q = .slotCopy x b) →
    exec c s = .next (s.withReply m q.kind tag .range []))
  ∧ (∀ (tag scope b : Byte) (s : State), s.takes .game .store → scope = 2 ∨ scope = 3 →
    s.bl.cfg.visible = false → s.bl.cfg.ng < 32 →
    exec (.storeVerify .game tag scope b) s = .next
      ((s.withReply .game 0x3C tag .denied []).postFault .accessDenied .game none))

/-- SAVE_OPEN with the write right: its checks in order, and a transaction opened with the lowest-numbered free
blocks, the cursor at 0 and the running check at its initial value (R107, R113 to R115, R137). The free blocks are
the data blocks in the free pool, in ascending number. -/
def Obligations.SaveOpens : Prop :=
  (∀ ss : Store, ss.freeBlocks.Pairwise (· < ·)
    ∧ ∀ b, b ∈ ss.freeBlocks ↔ 16 ≤ b ∧ b ≤ 511 ∧ ss.blockSet b = .free)
  ∧ ∀ (m : Master) (tag b : Byte) (len : Word) (slot : Fin 32) (s : State), s.takes m .store →
    b.toNat = slot.val → (m = .game ↔ slot.val < s.bl.cfg.ng) →
    let blocks := (len.toNat + 255) / 256
    let txn : Txn := { slot := slot, length := len.toNat, state := .opened
                       reservation := s.ss.freeBlocks.take blocks, cursor := 0, running := 0xFFFF
                       region := List.replicate 32 0 }
    let refuse (c : Code) : State := s.withReply m 0x32 tag c []
    exec (.saveOpen m tag b len) s = .next (
      if s.ss.lockSeen slot = true then refuse .locked
      else if (s.ss.txn m).isSome then refuse .busy
      else if s.ss.claimed slot = true then refuse .slotBusy
      else if len.toNat = 0 ∨ s.bl.cfg.maxLength < len.toNat then refuse .range
      else if s.ss.freeBlocks.length < blocks then refuse .noSpace
      else ({ s with ss := s.ss.setTxn m (some txn) } : State).withReply m 0x32 tag .ok (u8 blocks))

/-- SAVE_DATA: refused without a transaction, and with RANGE beyond the length; otherwise the cursor and the running
check take the bytes, the transaction fills at its length, one write burst is placed for each region touched, at the
region's place in the reservation, and the reply slot is kept. A burst's completion writes its 32 bytes, and the
last of a request brings OK with the cursor (R50, R116; the cursor a reply carries is log entry 14; when the grant
decisions come is log entry 26). Region j of a reservation is at byte 32 × (j mod 8) of its block j / 8, a region's
burst is its 32 bytes, with zeros after the last, and the check is the CRC-16 of R96. -/
def Obligations.SaveDataWrites : Prop :=
  (∀ (chain : List Nat) (j b : Nat), chain[j / 8]? = some b → regionAddr chain j = 256 * b + 32 * (j % 8))
  ∧ (∀ (l : List Byte) (i : Nat), (burstOf l i).length = 32
    ∧ ∀ k, k < 32 → (burstOf l i)[k]? = some ((l[32 * i + k]?).getD 0))
  ∧ (∀ (r : Word) (l : List Byte) (b : Byte), crc16From r [] = r
    ∧ crc16From r (l ++ [b]) = (List.range 8).foldl
      (fun x _ => if x.getLsbD 15 then (x <<< 1) ^^^ 0x1021 else x <<< 1)
      (crc16From r l ^^^ (b.setWidth 16 <<< 8)))
  ∧ crc16From 0xFFFF [0x31, 0x32, 0x33, 0x34, 0x35, 0x36, 0x37, 0x38, 0x39] = 0x29B1
  ∧ (∀ (m : Master) (tag : Byte) (bytes : List Byte) (s : State), s.takes m .store →
    1 ≤ bytes.length → bytes.length ≤ 64 →
    (s.ss.txn m = none →
      exec (.saveData m tag bytes) s = .next (s.withReply m 0x33 tag .noTransaction []))
    ∧ ∀ x, s.ss.txn m = some x →
      (x.length < x.cursor + bytes.length →
        exec (.saveData m tag bytes) s = .next (s.withReply m 0x33 tag .range []))
      ∧ (x.cursor + bytes.length ≤ x.length →
        let stream := x.region.take (x.cursor % 32) ++ bytes
        let count := (stream.length + 31) / 32
        let filled := { x with
          cursor := x.cursor + bytes.length
          running := crc16From x.running bytes
          region := burstOf stream (stream.length / 32)
          state := if x.cursor + bytes.length = x.length then .filled else x.state }
        let ss := s.ss.setTxn m (some filled)
        let ops : List StoreOp := (List.range count).map fun i =>
          { owner := .data m tag (if i + 1 = count then some (x.cursor + bytes.length) else none)
            addr := regionAddr x.reservation (x.cursor / 32 + i)
            bytes := some (burstOf stream i) }
        exec (.saveData m tag bytes) s = .next (State.arbitrate
          { s.reserveSlot m with ss := { ss with ops := ss.ops ++ ops } })))
  ∧ (∀ (s : State) (op : StoreOp) (m : Master) (tag : Byte), s.storeInFlight op false →
    (op.owner = .data m tag none →
      exec .dataWriteComplete s = .next (s.burstDone op).arbitrate)
    ∧ ∀ n, op.owner = .data m tag (some n) →
      exec .dataWriteComplete s = .next (State.arbitrate ((s.burstDone op).reply m
        { kind := 0x33, tag := tag, code := .ok, result := u16 n })))

/-- SAVE_COMMIT: refused by the transaction's state and a full queue; otherwise the transaction becomes
COMMITTING and its entry is appended, with the reply slot kept. SAVE_ABORT: refused without a transaction and
while COMMITTING; otherwise the transaction ends, its waiting bursts are withdrawn, each SAVE_DATA not completed
is answered NO_TRANSACTION, and then the abort OK; a burst of it in flight is marked as belonging to work that has
ended. Not completed are the SAVE_DATA requests whose last burst is in flight or waits (R117, R118; the order of
the answers is log entry 15; that the grant decision comes in the request's own step is log entry 26). -/
def Obligations.CommitOrAbort : Prop :=
  (∀ (m : Master) (tag : Byte) (s : State), s.takes m .store →
    (s.ss.txn m = none →
      exec (.saveCommit m tag) s = .next (s.withReply m 0x34 tag .noTransaction [])
      ∧ exec (.saveAbort m tag) s = .next (s.withReply m 0x35 tag .noTransaction []))
    ∧ ∀ x, s.ss.txn m = some x →
      (x.state = .opened →
        exec (.saveCommit m tag) s = .next (s.withReply m 0x34 tag .incomplete []))
      ∧ (x.state = .committing ∨ x.state = .filled ∧ s.ss.queueFull = true →
        exec (.saveCommit m tag) s = .next (s.withReply m 0x34 tag .busy []))
      ∧ (x.state = .filled → s.ss.queueFull = false →
        let ss := s.ss.setTxn m (some { x with state := .committing })
        exec (.saveCommit m tag) s = .next (State.arbitrate
          (({ s.reserveSlot m with ss := ss } : State).appendEntry
            { kind := .txn, slot := x.slot, requester := m, tag := tag })))
      ∧ (x.state = .committing →
        exec (.saveAbort m tag) s = .next (s.withReply m 0x35 tag .busy [])))
  ∧ (∀ (m : Master) (tag : Byte) (s : State) (x : Txn), s.takes m .store → s.ss.txn m = some x →
    x.state ≠ .committing → ∃ t, exec (.saveAbort m tag) s = .next t
      ∧ t.ss = { s.ss.setTxn m none with ops := s.ss.ops.filter fun op => !isDataOf m op }
      ∧ (t.queues m).replies.map (·.2) = (s.queues m).replies.map (·.2)
          ++ (s.unfinishedData m).map (noTransaction 0x33)
          ++ [{ kind := 0x35, tag := tag, code := .ok, result := [] }]
      ∧ t.pma = { s.pma with inFlight := match s.pma.inFlight with
          | some (.store op d) => some (.store op (d || isDataOf m op))
          | burst => burst }
      ∧ t = { s with ss := t.ss, pma := t.pma, game := t.game, sys := t.sys })
  ∧ (∀ (m : Master) (op : StoreOp), isDataOf m op = true ↔ ∃ tag r, op.owner = .data m tag r)
  ∧ ∀ (m : Master) (s : State),
    let last (op : StoreOp) : Option Byte := match op.owner with
      | .data k tag (some _) => if k = m then some tag else none
      | _ => none
    s.unfinishedData m = (match s.pma.inFlight with
      | some (.store op false) => (last op).toList
      | _ => []) ++ s.ss.ops.filterMap last

/-- The end of an OPEN or FILLED transaction that another request overtakes: the transaction ends, each SAVE_DATA
not completed is answered NO_TRANSACTION, a burst of it in flight is marked as belonging to work that has ended, and
TXN_LOST goes to its master with the slot and the reason; with no such transaction on the slot nothing changes
(R125; that those answers come in request order and before TXN_LOST is log entry 15). SLOT_ERASE and SLOT_LOCK with
the right: their checks in order, the overtaking, and the entry appended with the reply slot kept (R123, R124). The
lock that requests see is that of the newest lock entry of the slot in the commit queue, else of the entry being
written, else of the slot; a slot is claimed by a transaction that names it or the copy into it; the commit queue
has six places, one of them held by a copy until it queues its entry (R114, R119). That the grant decision comes in
the request's own step is log entry 26. -/
def Obligations.EraseAndLock : Prop :=
  (∀ (m : Master) (slot : Fin 32) (reason : LostReason) (s : State),
    let other := m.other
    (txnNamesOpen slot (s.ss.txn other) = false → s.overtake m slot reason = s)
    ∧ (txnNamesOpen slot (s.ss.txn other) = true → ∃ t : State, s.overtake m slot reason = t.post other
          (.txnLost slot reason)
        ∧ t.ss = { s.ss.setTxn other none with ops := s.ss.ops.filter fun op => !isDataOf other op }
        ∧ (t.queues other).replies.map (·.2) = (s.queues other).replies.map (·.2)
            ++ (s.unfinishedData other).map (noTransaction 0x33)
        ∧ t.pma = { s.pma with inFlight := match s.pma.inFlight with
            | some (.store op d) => some (.store op (d || isDataOf other op))
            | burst => burst }
        ∧ t = { s with ss := t.ss, pma := t.pma, game := t.game, sys := t.sys }))
  ∧ (∀ (m : Master) (tag b : Byte) (slot : Fin 32) (s : State), s.takes m .store → b.toNat = slot.val →
    m = .system ∨ slot.val < s.bl.cfg.ng →
    exec (.slotErase m tag b) s = .next (
      if s.ss.lockSeen slot = true then s.withReply m 0x39 tag .locked []
      else if txnNamesOpen slot (s.ss.txn m) = true ∨ copyClaims slot s.ss.copy = true then
        s.withReply m 0x39 tag .slotBusy []
      else if s.ss.queueFull = true then s.withReply m 0x39 tag .busy []
      else State.arbitrate (((s.reserveSlot m).overtake m slot .erased).appendEntry
        { kind := .erase, slot := slot, requester := m, tag := tag })))
  ∧ (∀ (tag b : Byte) (slot : Fin 32) (on : Bool) (s : State), s.takes .system .store →
    b.toNat = slot.val →
    let r := s.reserveSlot .system
    exec (.slotLock .system tag b on) s = .next (
      if on = true ∧ (txnNamesOpen slot s.ss.txnSystem = true ∨ copyClaims slot s.ss.copy = true) then
        s.withReply .system 0x3B tag .slotBusy []
      else if s.ss.queueFull = true then s.withReply .system 0x3B tag .busy []
      else State.arbitrate ((if on = true then r.overtake .system slot .locked else r).appendEntry
        { kind := .lock on, slot := slot, requester := .system, tag := tag })))
  ∧ (∀ (ss : Store) (slot : Fin 32),
    let locks (e : Entry) (on : Bool) := e.kind = .lock on ∧ e.slot = slot
    let flies (on : Bool) := ∃ w e, ss.pageWrite = some w ∧ w.entry = some e ∧ locks e on
    (∀ old e new on, ss.commits = old ++ e :: new → locks e on → (∀ x ∈ new, ∀ b, ¬locks x b) →
      ss.lockSeen slot = on)
    ∧ ((∀ x ∈ ss.commits, ∀ b, ¬locks x b) →
      (∀ on, flies on → ss.lockSeen slot = on)
      ∧ ((∀ on, ¬flies on) → ss.lockSeen slot = ss.dir.slots[slot].locked))
    ∧ (ss.claimed slot = true ↔ (∃ m t, ss.txn m = some t ∧ t.slot = slot)
      ∨ ∃ c, ss.copy = some c ∧ c.destination = slot)
    ∧ (∀ m, txnNamesOpen slot (ss.txn m) = true ↔
      ∃ t, ss.txn m = some t ∧ t.slot = slot ∧ t.state ≠ .committing)
    ∧ (copyClaims slot ss.copy = true ↔ ∃ c, ss.copy = some c ∧ c.destination = slot)
    ∧ (ss.queueFull = true ↔
      6 ≤ ss.commits.length + (if ∃ c, ss.copy = some c ∧ c.queued = false then 1 else 0)))

/-- A commit queue entry. It is appended at the tail. While a page write is in flight every entry waits; with none
in flight the entry at the head leaves the queue and takes its turn: an erase of an EMPTY slot and a lock that
changes nothing are answered at once from the slot as it stands, and the entry behind it takes its turn; any other
writes the page that is not active, with the next generation, the DHW that GC holds, and its own slot changed, the
serial advanced. The completion of the page's last burst is the commit point: the page becomes active, the working
directory takes the entry's slot, the work ends, the reply is placed, and the next entry takes its turn. A page
write cut off by a console reset ends without effect, and in WAITING the configuration read begins. A page write is
64 write bursts of 32 bytes in address order, from byte 0 for page A and from byte 2,048 for page B, that carry the
page's 2,048 bytes in their order (R93, R95, R98, R108, R120 to R122, R162; the bytes of a page are log entry 7, the
layouts of the erase and lock replies log entry 13, that the page's contents are those of its turn log entry 19;
that a completed burst's effects precede the grant decision is log entry 26). -/
def Obligations.CommitPoint : Prop :=
  (∀ (target : PageId) (d : Directory) (ng : Nat),
    let bytes := encodePage d ng
    let ops := pageOps target bytes
    let base := match target with
      | .a => 0
      | .b => 2048
    ops = (List.range 64).map (fun i =>
      { owner := .page i, addr := base + 32 * i, bytes := some ((bytes.drop (32 * i)).take 32) })
    ∧ bytes.length = 2048)
  ∧ (∀ (s : State) (e : Entry),
    s.appendEntry e = State.takeTurns { s with ss := { s.ss with commits := s.ss.commits ++ [e] } })
  ∧ (∀ s : State, s.ss.pageWrite.isSome = true ∨ s.ss.commits = [] → s.takeTurns = s)
  ∧ (∀ (s : State) (e : Entry) (rest : List Entry), s.ss.pageWrite = none → s.ss.commits = e :: rest →
    let left : State := { s with ss := { s.ss with commits := rest } }
    let cur := s.ss.dir.slots[e.slot]
    let serial := (cur.serial + 1) % 65536
    let target : PageId := if s.ss.active = some .a then .b else .a
    let page (new : SlotEntry) : State :=
      let image : Directory :=
        { gen := nextGen s.ss.dir.gen, dhw := s.bd.dhw, slots := putAt s.ss.dir.slots e.slot new }
      { s with ss := { s.ss with
          commits := rest
          pageWrite := some { target := target, image := image, entry := some e
                              released := cur.chain.filter fun b => !new.chain.contains b
                              left := 64, orphan := false }
          ops := s.ss.ops ++ pageOps target (encodePage image s.bl.cfg.ng) } }
    (e.kind = .erase → cur.body = none →
      s.takeTurns = (left.answer e.ask .ok (u16 cur.serial ++ u32 s.ss.dir.gen)).takeTurns)
    ∧ (e.kind = .erase → cur.body ≠ none →
      s.takeTurns = page { cur with body := none, serial := serial })
    ∧ (∀ on, e.kind = .lock on → cur.locked = on →
      s.takeTurns = (left.answer e.ask .ok (u16 cur.serial ++ flag on ++ u32 s.ss.dir.gen)).takeTurns)
    ∧ (∀ on, e.kind = .lock on → cur.locked ≠ on →
      s.takeTurns = page { cur with locked := on, serial := serial })
    ∧ (∀ x, e.kind = .txn → s.ss.txn e.requester = some x →
      let body : SlotBody :=
        { damaged := false, length := x.length, check := x.running, seconds := s.bd.sec, day := s.gameDay
          writer := if e.requester = .game then .game else .system
          copiedFrom := none, chain := x.reservation }
      s.takeTurns = page { cur with serial := serial, body := some body })
    ∧ (∀ c, e.kind = .copy → s.ss.copy = some c →
      let body : SlotBody :=
        { damaged := false, length := c.length, check := c.check, seconds := s.bd.sec, day := s.gameDay
          writer := .copy, copiedFrom := some c.source.val, chain := c.reservation }
      s.takeTurns = page { cur with serial := serial, body := some body }))
  ∧ (∀ (s : State) (op : StoreOp) (i : Nat) (w : PageWrite), s.storeInFlight op false →
    op.owner = .page i → s.ss.pageWrite = some w →
    let u := s.burstDone op
    (1 < w.left → exec .pageWriteBurstComplete s = .next (State.arbitrate
      { u with ss := { s.ss with pageWrite := some { w with left := w.left - 1 } } }))
    ∧ (w.left ≤ 1 → w.orphan = true → exec .pageWriteBurstComplete s = .next (State.arbitrate
      { u with
        ss := { s.ss with pageWrite := none }
        bl := { s.bl with phase := if s.bl.phase = .waiting then .loading else s.bl.phase } }))
    ∧ (∀ e, w.left ≤ 1 → w.orphan = false → w.entry = some e →
      let new := w.image.slots[e.slot]
      let done : Store := { s.ss with
        pageWrite := none
        active := some w.target
        dir := { gen := w.image.gen, dhw := w.image.dhw, slots := putAt s.ss.dir.slots e.slot new } }
      let day := match new.body with
        | none => 0
        | some b => b.day
      exec .pageWriteBurstComplete s = .next (State.arbitrate (State.takeTurns (State.answer
        { u with ss := match e.kind with
            | .txn => done.setTxn e.requester none
            | .copy => { done with copy := none }
            | _ => done }
        e.ask .ok (match e.kind with
            | .erase => u16 new.serial ++ u32 w.image.gen
            | .lock _ => u16 new.serial ++ flag new.locked ++ u32 w.image.gen
            | _ => u16 new.serial ++ u16 day ++ u32 w.image.gen))))))

/-- SLOT_COPY from the system processor: its checks in order, and a copy that takes its snapshot and its
reservation and reads the first region. Each read's bytes go to the same region of the reservation, each write
brings the next read; after the last read the copy's own check decides between the copy-commit entry and
DAMAGED (R126, R127; that the check is decided at the last read is log entry 22, that a completed burst's effects, the
copy's next operation among them, precede the grant decision log entry 26). -/
def Obligations.SlotCopyRuns : Prop :=
  (∀ (tag bs bd : Byte) (src dst : Fin 32) (s : State), s.takes .system .store →
    bs.toNat = src.val → bd.toNat = dst.val →
    let refuse (c : Code) : State := s.withReply .system 0x3A tag c []
    let body := s.ss.dir.slots[src].body
    (src = dst → exec (.slotCopy .system tag bs bd) s = .next (refuse .range))
    ∧ (src ≠ dst → s.ss.lockSeen dst = true →
      exec (.slotCopy .system tag bs bd) s = .next (refuse .locked))
    ∧ (src ≠ dst → s.ss.lockSeen dst = false →
      let run := s.ss.copy.isSome = true
      let own := txnNamesOpen dst s.ss.txnSystem = true
      (run → exec (.slotCopy .system tag bs bd) s = .next (refuse .busy))
      ∧ (¬run → own → exec (.slotCopy .system tag bs bd) s = .next (refuse .slotBusy))
      ∧ (¬run → ¬own → body = none →
        exec (.slotCopy .system tag bs bd) s = .next (refuse .empty))
      ∧ ∀ x, ¬run → ¬own → body = some x →
        let blocks := (x.length + 255) / 256
        let r := (s.reserveSlot .system).overtake .system dst .replaced
        let copy : Copy :=
          { requester := .system, tag := tag, source := src, destination := dst, chain := x.chain
            length := x.length, check := x.check, serial := s.ss.dir.slots[src].serial
            reservation := r.ss.freeBlocks.take blocks, region := 0, crc := 0xFFFF, queued := false }
        let read : StoreOp := { owner := .copyRead, addr := regionAddr x.chain 0, bytes := none }
        exec (.slotCopy .system tag bs bd) s = .next (
          if x.damaged = true then refuse .damaged
          else if s.ss.queueFull = true then refuse .busy
          else if s.ss.freeBlocks.length < blocks then refuse .noSpace
          else State.arbitrate { r with ss := { r.ss with
            copy := some copy
            ops := r.ss.ops ++ [read] } })))
  ∧ (∀ (s : State) (op : StoreOp) (c : Copy), s.storeInFlight op false → op.owner = .copyRead →
    op.bytes = none → s.ss.copy = some c → c.queued = false →
    let bytes := s.sram.readBytes sramBlank op.addr 32
    let crc := crc16From c.crc (bytes.take (c.length - 32 * c.region))
    let write : StoreOp :=
      { owner := .copyWrite, addr := regionAddr c.reservation c.region, bytes := some bytes }
    let u : State := { s.burstDone op with ss := { s.ss with ops := s.ss.ops ++ [write] } }
    (c.region + 1 < (c.length + 31) / 32 → exec .copyReadComplete s = .next (State.arbitrate
      { u with ss := { u.ss with copy := some { c with crc := crc } } }))
    ∧ ((c.length + 31) / 32 ≤ c.region + 1 → crc = c.check →
      exec .copyReadComplete s = .next (State.arbitrate (State.appendEntry
        { u with ss := { u.ss with copy := some { c with crc := crc, queued := true } } }
        { kind := .copy, slot := c.destination, requester := c.requester, tag := c.tag })))
    ∧ ((c.length + 31) / 32 ≤ c.region + 1 → crc ≠ c.check →
      let ended : State := { s.burstDone op with ss := { s.ss with copy := none } }
      exec .copyReadComplete s = .next (State.arbitrate
        ((ended.mismatch c.source c.serial).refuse { m := c.requester, tag := c.tag, kind := 0x3A }
          .damaged))))
  ∧ (∀ (s : State) (op : StoreOp) (c : Copy), s.storeInFlight op false → op.owner = .copyWrite →
    s.ss.copy = some c →
    let read : StoreOp :=
      { owner := .copyRead, addr := regionAddr c.chain (c.region + 1), bytes := none }
    let onward : Copy := { c with region := c.region + 1 }
    exec .copyWriteComplete s = .next (State.arbitrate (
      if c.queued = true then s.burstDone op
      else { s.burstDone op with ss := { s.ss with copy := some onward, ops := s.ss.ops ++ [read] } })))

/-- A mismatch that a reader finds marks the slot DAMAGED and logs SLOT_DAMAGED when the slot still has the
reader's serial and is VALID, and does nothing otherwise (R134). LOAD_OPEN opens a cursor on the slot version,
closing the old one; LOAD_DATA takes the smaller of its count and what is left and reads the regions touched;
its last read brings the bytes, with the check compared at the content's end; LOAD_CLOSE answers what is owed
in request order and then OK. Closing a cursor, by either, withdraws its waiting reads, marks one in flight as
belonging to work that has ended, and answers each LOAD_DATA not yet answered with NO_TRANSACTION (R128 to R130;
that order is log entry 15; that the grant decision comes in the request's own step is log entry 26). -/
def Obligations.LoadRequests : Prop :=
  (∀ (s : State) (slot : Fin 32) (serial : Nat),
    let e := s.ss.dir.slots[slot]
    (∀ b, e.body = some b → b.damaged = false → e.serial = serial →
      s.mismatch slot serial = ({ s with ss := { s.ss with dir := { s.ss.dir with
          slots := putAt s.ss.dir.slots slot { e with body := some { b with damaged := true } } } } } :
        State).postFault .slotDamaged (if slot.val < s.bl.cfg.ng then .game else .system)
          (some slot.val))
    ∧ (e.serial ≠ serial ∨ e.body = none ∨ (∃ b, e.body = some b ∧ b.damaged = true) →
      s.mismatch slot serial = s))
  ∧ (∀ (m : Master) (tag b : Byte) (slot : Fin 32) (s : State), s.takes m .store → b.toNat = slot.val →
    m = .system ∨ slot.val < s.bl.cfg.ng ∨ s.bl.cfg.visible = true →
    let e := s.ss.dir.slots[slot]
    (e.body = none → exec (.loadOpen m tag b) s = .next (s.withReply m 0x36 tag .empty []))
    ∧ ∀ x, e.body = some x →
      let new : Cursor :=
        { slot := slot, chain := x.chain, length := x.length, check := x.check, serial := e.serial
          pos := 0, running := 0xFFFF, loads := [] }
      let c := s.closeCursor m
      (x.damaged = true → exec (.loadOpen m tag b) s = .next (s.withReply m 0x36 tag .damaged []))
      ∧ (x.damaged = false → exec (.loadOpen m tag b) s = .next
        (({ c with ss := c.ss.setCursor m (some new) } : State).withReply m 0x36 tag .ok
          (u16 x.length ++ u16 e.serial))))
  ∧ (∀ (m : Master) (tag n : Byte) (s : State), s.takes m .store →
    (n.toNat = 0 ∨ 64 < n.toNat →
      exec (.loadData m tag n) s = .next (s.withReply m 0x37 tag .range []))
    ∧ (0 < n.toNat → n.toNat ≤ 64 →
      (s.ss.cursor m = none →
        exec (.loadData m tag n) s = .next (s.withReply m 0x37 tag .noTransaction []))
      ∧ ∀ c, s.ss.cursor m = some c →
        let take := min n.toNat (c.length - c.pos)
        let count := (c.pos % 32 + take + 31) / 32
        let ops : List StoreOp := (List.range count).map fun i =>
          { owner := .load m, addr := regionAddr c.chain (c.pos / 32 + i), bytes := none }
        let l : LoadReq := { tag := tag, start := c.pos, take := take, burstsLeft := count, got := [] }
        let ss := s.ss.setCursor m (some { c with pos := c.pos + take, loads := c.loads ++ [l] })
        (take = 0 → exec (.loadData m tag n) s = .next (s.withReply m 0x37 tag .ok []))
        ∧ (0 < take → exec (.loadData m tag n) s = .next (State.arbitrate
          { s.reserveSlot m with ss := { ss with ops := ss.ops ++ ops } }))))
  ∧ (∀ (m : Master) (s : State) (op : StoreOp) (c : Cursor) (l : LoadReq) (rest : List LoadReq),
    s.storeInFlight op false → op.owner = .load m → op.bytes = none → s.ss.cursor m = some c →
    c.loads = l :: rest →
    let got := l.got ++ s.sram.readBytes sramBlank op.addr 32
    let content := (got.drop (l.start % 32)).take l.take
    let running := crc16From c.running content
    let advanced (k : Cursor) : State :=
      { s.burstDone op with ss := s.ss.setCursor m (some k) }
    let more := { c with loads := { l with got := got, burstsLeft := l.burstsLeft - 1 } :: rest }
    let u := advanced { c with running := running, loads := rest }
    let a : Ask := { m := m, tag := l.tag, kind := 0x37 }
    exec .loadReadComplete s = .next (State.arbitrate (
      if 1 < l.burstsLeft then advanced more
      else if l.start + l.take = c.length ∧ running ≠ c.check then
        (u.mismatch c.slot c.serial).answer a .damaged content
      else u.answer a .ok content)))
  ∧ (∀ (m : Master) (s : State),
    (s.ss.cursor m = none → s.closeCursor m = s)
    ∧ ∀ c, s.ss.cursor m = some c → ∃ t, s.closeCursor m = t
      ∧ t.ss = { s.ss.setCursor m none with ops := s.ss.ops.filter fun op => !isLoadOf m op }
      ∧ t.pma = { s.pma with inFlight := match s.pma.inFlight with
          | some (.store op d) => some (.store op (d || isLoadOf m op))
          | burst => burst }
      ∧ (t.queues m).replies.map (·.2) = (s.queues m).replies.map (·.2)
          ++ c.loads.map (fun l => noTransaction 0x37 l.tag)
      ∧ t = { s with ss := t.ss, pma := t.pma, game := t.game, sys := t.sys })
  ∧ (∀ (m : Master) (op : StoreOp), isLoadOf m op = true ↔ op.owner = .load m)
  ∧ (∀ (m : Master) (tag : Byte) (s : State), s.takes m .store → ∃ t,
    exec (.loadClose m tag) s = .next t ∧ t.ss.cursor m = none
      ∧ (t.queues m).replies.map (·.2) = (s.queues m).replies.map (·.2)
          ++ (match s.ss.cursor m with
            | none => []
            | some c => c.loads.map fun l => noTransaction 0x37 l.tag)
          ++ [{ kind := 0x38, tag := tag, code := .ok, result := [] }]
      ∧ t.ss = (s.closeCursor m).ss ∧ t.pma = (s.closeCursor m).pma
      ∧ t = { s with ss := t.ss, pma := t.pma, game := t.game, sys := t.sys })

/-- STORE_VERIFY with every slot of its scope readable: a scope that R174 does not name is refused with RANGE;
with no verify running it starts at the first VALID slot of the scope; a running or pending verify that covers
the scope is joined; a pending verify that the scope covers is widened; anything else is refused with BUSY. A
verify reads its slot region by region, compares the check, goes on to the next VALID slot, and at its end
answers each requester with the counts; then the pending verify starts (R131 to R133). A scope covers itself,
all slots cover every scope, and the game or system slots cover each one slot among them (log entry 21). The scope
values are those of R174; in a reply the slot byte of a scope of more than one slot is log entry 42. That a completed
read's effects, the next read among them, precede the grant decision, and that a request's first read is followed by
one in its own step, is log entry 26. -/
def Obligations.VerifyRuns : Prop :=
  (∀ (d : Directory) (l : List (Fin 32)),
    let valid (slot : Fin 32) := ∃ b, d.slots[slot].body = some b ∧ b.damaged = false
    (d.firstValid l = none ↔ ∀ slot ∈ l, ¬valid slot)
    ∧ ∀ slot serial b rest, d.firstValid l = some ((slot, serial, b), rest) →
      d.slots[slot].body = some b ∧ b.damaged = false ∧ d.slots[slot].serial = serial
        ∧ ∃ passed, l = passed ++ slot :: rest ∧ ∀ y ∈ passed, ¬valid y)
  ∧ (∀ (m : Master) (tag scope b : Byte) (s : State), s.takes m .store →
    (4 ≤ scope.toNat ∨ scope = 0 ∧ 32 ≤ b.toNat →
      exec (.storeVerify m tag scope b) s = .next (s.withReply m 0x3C tag .range []))
    ∧ ∀ sc, scopeOf scope b = some sc →
      (∀ slot ∈ sc.slots s.bl.cfg.ng,
        m = .system ∨ slot.val < s.bl.cfg.ng ∨ s.bl.cfg.visible = true) →
      let r := s.reserveSlot m
      let me := [(m, tag)]
      (s.ss.verify = none → s.ss.pendingVerify = none →
        (∀ slot serial x rest,
          s.ss.dir.firstValid (sc.slots s.bl.cfg.ng) = some ((slot, serial, x), rest) →
          let at' : VerifySlot :=
            { slot := slot, serial := serial, chain := x.chain, length := x.length, check := x.check
              region := 0, crc := 0xFFFF }
          let v : Verify :=
            { scope := sc, requesters := me, rest := rest, current := some at', checked := 0
              damaged := 0 }
          let read : StoreOp := { owner := .verify, addr := regionAddr x.chain 0, bytes := none }
          exec (.storeVerify m tag scope b) s = .next (State.arbitrate
            { r with ss := { s.ss with verify := some v, ops := s.ss.ops ++ [read] } }))
        ∧ (s.ss.dir.firstValid (sc.slots s.bl.cfg.ng) = none →
          exec (.storeVerify m tag scope b) s = .next
            (s.withReply m 0x3C tag .ok (sc.fields ++ [0, 0])).arbitrate))
      ∧ ∀ v, s.ss.verify = some v →
        let joined : Verify := { v with requesters := v.requesters ++ me }
        let fresh : PendingVerify := { scope := sc, requesters := me }
        (v.scope.covers s.bl.cfg.ng sc = true →
          exec (.storeVerify m tag scope b) s =
            .next { r with ss := { s.ss with verify := some joined } })
        ∧ (v.scope.covers s.bl.cfg.ng sc = false → s.ss.pendingVerify = none →
          exec (.storeVerify m tag scope b) s =
            .next { r with ss := { s.ss with pendingVerify := some fresh } })
        ∧ ∀ p, v.scope.covers s.bl.cfg.ng sc = false → s.ss.pendingVerify = some p →
          let both : PendingVerify :=
            { scope := if p.scope.covers s.bl.cfg.ng sc = true then p.scope else sc
              requesters := p.requesters ++ me }
          exec (.storeVerify m tag scope b) s = .next (
            if p.scope.covers s.bl.cfg.ng sc = true ∨ sc.covers s.bl.cfg.ng p.scope = true then
              { r with ss := { s.ss with pendingVerify := some both } }
            else s.withReply m 0x3C tag .busy []))
  ∧ (∀ (s : State) (v : Verify) (n : Nat), s.ss.verify = some v →
    (∀ slot serial x rest, s.ss.dir.firstValid v.rest = some ((slot, serial, x), rest) →
      let at' : VerifySlot :=
        { slot := slot, serial := serial, chain := x.chain, length := x.length, check := x.check
          region := 0, crc := 0xFFFF }
      let read : StoreOp := { owner := .verify, addr := regionAddr x.chain 0, bytes := none }
      State.advanceVerify (n + 1) s = { s with ss := { s.ss with
        verify := some { v with current := some at', rest := rest }, ops := s.ss.ops ++ [read] } })
    ∧ (s.ss.dir.firstValid v.rest = none →
      let told := v.requesters.foldl (fun (u : State) q =>
          u.answer { m := q.1, tag := q.2, kind := 0x3C } .ok
            (v.scope.fields ++ u8 v.checked ++ u8 v.damaged))
        { s with ss := { s.ss with verify := none } }
      (s.ss.pendingVerify = none → State.advanceVerify (n + 1) s = told)
      ∧ ∀ p, s.ss.pendingVerify = some p →
        let next : Verify :=
          { scope := p.scope, requesters := p.requesters, rest := p.scope.slots s.bl.cfg.ng
            current := none, checked := 0, damaged := 0 }
        State.advanceVerify (n + 1) s = State.advanceVerify n
          { told with ss := { told.ss with verify := some next, pendingVerify := none } }))
  ∧ (∀ (s : State) (op : StoreOp) (v : Verify) (c : VerifySlot), s.storeInFlight op false →
    op.owner = .verify → op.bytes = none → s.ss.verify = some v → v.current = some c →
    let crc := crc16From c.crc ((s.sram.readBytes sramBlank op.addr 32).take (c.length - 32 * c.region))
    let found := crc ≠ c.check ∧ s.versionCurrent c.slot c.serial = true
    let onward : VerifySlot := { c with crc := crc, region := c.region + 1 }
    let read : StoreOp :=
      { owner := .verify, addr := regionAddr c.chain (c.region + 1), bytes := none }
    let counted : Verify :=
      { v with current := none, checked := v.checked + 1
               damaged := if found then v.damaged + 1 else v.damaged }
    let u : State := { s.burstDone op with ss := { s.ss with verify := some counted } }
    (c.region + 1 < (c.length + 31) / 32 →
      exec .verifyReadComplete s = .next (State.arbitrate { s.burstDone op with ss := { s.ss with
        verify := some { v with current := some onward }, ops := s.ss.ops ++ [read] } }))
    ∧ ((c.length + 31) / 32 ≤ c.region + 1 →
      exec .verifyReadComplete s = .next (State.arbitrate (State.advanceVerify 2
        (if crc ≠ c.check then u.mismatch c.slot c.serial else u)))))
  ∧ (∀ (big small : VerifyScope) (ng : Nat),
    big.covers ng small = true ↔ big = .all ∨ big = small
      ∨ ∃ slot : Fin 32, small = .one slot
        ∧ (big = .game ∧ slot.val < ng ∨ big = .system ∧ ng ≤ slot.val))
  ∧ (∀ (ng : Nat) (slot x : Fin 32),
    (x ∈ (VerifyScope.one slot).slots ng ↔ x = slot) ∧ (x ∈ VerifyScope.game.slots ng ↔ x.val < ng)
    ∧ (x ∈ VerifyScope.system.slots ng ↔ ng ≤ x.val) ∧ x ∈ VerifyScope.all.slots ng)
  ∧ (∀ (sc : VerifyScope) (ng : Nat), (sc.slots ng).Pairwise (· < ·))
  ∧ (∀ (b : Byte) (slot : Fin 32), b.toNat = slot.val →
    scopeOf 0 b = some (.one slot) ∧ (VerifyScope.one slot).fields = [0, b])
  ∧ (∀ b : Byte, scopeOf 1 b = some .game ∧ scopeOf 2 b = some .system ∧ scopeOf 3 b = some .all)
  ∧ (VerifyScope.game.fields = [1, 0] ∧ VerifyScope.system.fields = [2, 0]
    ∧ VerifyScope.all.fields = [3, 0])
  ∧ ∀ (s : State) (slot : Fin 32) (serial : Nat), s.versionCurrent slot serial = true ↔
    s.ss.dir.slots[slot].serial = serial
      ∧ ∃ x, s.ss.dir.slots[slot].body = some x ∧ x.damaged = false

/-- The mount. Page bursts are gathered, and with the last both pages are tested: a page is valid exactly when its
magic, its generation, not 0, the trailer's equal generation and its CRC-16 hold. The active page is the valid one,
of two the one of higher generation, page A at equal generations, with the mount result, DIRECTORY_DAMAGED logged
where the result is ONE_PAGE; with neither valid page A is formatted. The slots come from the active page, each with
the part of its chain that the check finds sound, and a VALID slot whose chain is not whole becomes DAMAGED and is
logged. A page that the part writes tests valid, a generation's successor is the higher, and a mount that takes the
page has the directory that was written. With the scan flag the slots still VALID are then read in slot order, eight
bursts for each block of the chain; a slot whose check differs becomes DAMAGED, keeps all else and is logged. The
mount's end hands the high-water over, posts STORE_READY and makes the store READY (R94, R95, R97, R98, R100 to
R105). The bytes of a page are log entry 7, a stored code or Ng the part does not write log entry 24; that of two
generations 2,147,483,648 apart page B is taken is log entry 37; that the scan's reads of a slot are placed when the
last burst of the slot before completes is log entry 23; that a completed burst's effects precede the grant decision
is log entry 26. -/
def Obligations.MountReads : Prop :=
  (∀ (s : State) (op : StoreOp) (mt : Mount) (i : Nat), s.storeInFlight op false → op.bytes = none →
    s.ss.mount = some mt →
    let bytes := s.sram.readBytes sramBlank op.addr 32
    let set (k : Mount) : State := { s.burstDone op with ss := { s.ss with mount := some k } }
    (op.owner = .mountPage .a i → exec .mountReadComplete s = .next (State.arbitrate
      (set { mt with pageA := mt.pageA ++ bytes })))
    ∧ (op.owner = .mountPage .b i → exec .mountReadComplete s = .next (State.arbitrate (
      if i < 63 then set { mt with pageB := mt.pageB ++ bytes }
      else (set { mt with pageB := mt.pageB ++ bytes }).testPages mt.pageA (mt.pageB ++ bytes))))
    ∧ (∀ sc, op.owner = .mountScan → mt.scan = some sc →
      let crc := crc16From sc.crc (bytes.take sc.contentLeft)
      let onward : Scan :=
        { sc with crc := crc, contentLeft := sc.contentLeft - 32, burstsLeft := sc.burstsLeft - 1 }
      let u := set { mt with scan := none }
      let differs := ∃ b, s.ss.dir.slots[sc.slot].body = some b ∧ b.check ≠ crc
      (1 < sc.burstsLeft → exec .mountReadComplete s = .next (State.arbitrate
        (set { mt with scan := some onward })))
      ∧ (sc.burstsLeft ≤ 1 → differs → exec .mountReadComplete s = .next (State.arbitrate
        (State.scanFrom sc.rest (u.markSlot sc.slot))))
      ∧ (sc.burstsLeft ≤ 1 → ¬differs → exec .mountReadComplete s = .next (State.arbitrate
        (State.scanFrom sc.rest u)))))
  ∧ (∀ (s : State) (pa pb : List Byte),
    let t := s.testPages pa pb
    let takes (p : PageId) (page : List Byte) (r : MountResult) :=
      t.ss.active = some p ∧ t.ss.result = some r ∧ t.ss.headerNg = some (pageNg page)
      ∧ t.ss.dir.gen = pageGen page ∧ t.ss.dir.dhw = pageDhw page
      ∧ (s.bl.cfg.scan = false → t.ss.state = .ready ∧ t.gc.dayEval = true)
      ∧ t = (if r = .onePage then s.postFault .directoryDamaged .both none else s).mountOn p page r
    (pageValid pa = true → pageValid pb = true → pageGen pa ≠ pageGen pb →
      higherGen (pageGen pa) (pageGen pb) = true → takes .a pa .normal)
    ∧ (pageValid pa = true → pageValid pb = true → pageGen pa ≠ pageGen pb →
      higherGen (pageGen pa) (pageGen pb) = false → takes .b pb .normal)
    ∧ (pageValid pa = true → pageValid pb = true → pageGen pa = pageGen pb → takes .a pa .onePage)
    ∧ (pageValid pa = true → pageValid pb = false → takes .a pa .onePage)
    ∧ (pageValid pa = false → pageValid pb = true → takes .b pb .onePage)
    ∧ (pageValid pa = false → pageValid pb = false →
      let image : Directory :=
        { gen := 1, dhw := s.bd.dhw, slots := Vector.replicate 32 SlotEntry.initial }
      let w : PageWrite :=
        { target := .a, image := image, entry := none, released := [], left := 64, orphan := false }
      t = { s.postFault .storeBlank .both none with ss := { s.ss with
        state := .formatting, pageWrite := some w
        ops := s.ss.ops ++ pageOps .a (encodePage image s.bl.cfg.ng) } }))
  ∧ (∀ (d : Directory) (ng : Nat), 1 ≤ d.gen → d.gen ≤ 4294967295 →
    pageValid (encodePage d ng) = true ∧ pageGen (encodePage d ng) = d.gen
      ∧ (d.dhw ≤ 65535 → pageDhw (encodePage d ng) = d.dhw)
      ∧ (ng ≤ 255 → pageNg (encodePage d ng) = ng)
      ∧ higherGen (nextGen d.gen) d.gen = true ∧ higherGen d.gen (nextGen d.gen) = false)
  ∧ (∀ (s : State) (op : StoreOp) (i : Nat) (w : PageWrite), s.storeInFlight op false →
    op.owner = .page i → s.ss.pageWrite = some w → w.left ≤ 1 → w.orphan = false → w.entry = none →
    exec .pageWriteBurstComplete s = .next (State.arbitrate (State.completeMount
      { s.burstDone op with ss := { s.ss with
        pageWrite := none, active := some w.target, dir := w.image, result := some .formatted
        headerNg := some s.bl.cfg.ng } })))
  ∧ (∀ s : State,
    let ls := ((s.bd.sec : Int) + s.bd.zone * 900).toNat
    let g := if ls < s.bl.cfg.boundary then 0 else (ls - s.bl.cfg.boundary) / 86400
    let old := max s.bd.dhw s.ss.dir.dhw
    let day : State := { s with
      bd := { s.bd with dhw := max old g }
      gc := { s.gc with dayEval := true } }
    let told := if old < g ∧ s.bd.valid = true then day.post .game (.dayTurned old g) else day
    s.completeMount = { told.postBoth (.storeReady s.ss.result s.ss.dir.gen
        (s.ss.dir.countState .valid) (s.ss.dir.countState .damaged)) with
      ss := { s.ss with state := .ready, mount := none } })
  ∧ (∀ (s : State) (p : PageId) (page : List Byte) (r : MountResult),
    let t := s.mountOn p page r
    let kept (slot : Fin 32) : List Nat × Bool := (pageSlot page slot).walk (pageMap page)
      ((slotNumbers.filter (· < slot)).flatMap fun i => t.ss.dir.slots[i].chain)
    (∀ slot : Fin 32,
      let x := pageSlot page slot
      let body : SlotBody :=
        { damaged := x.state == .damaged || !(kept slot).2, length := x.length, check := x.check
          seconds := x.seconds, day := x.day, writer := x.writer
          copiedFrom := if x.writer = .copy then some (x.copied % 32) else none
          chain := (kept slot).1 }
      t.ss.dir.slots[slot] =
        { serial := x.serial, locked := x.locked
          body := if x.state = .empty then none else some body })
    ∧ t.fl = ((slotNumbers.filter fun slot =>
        (pageSlot page slot).state == .valid && !(kept slot).2).foldl
        (fun (u : State) slot => u.postFault .slotDamaged
          (if slot.val < s.bl.cfg.ng then .game else .system) (some slot.val)) s).fl)
  ∧ (∀ (x : StoredSlot) (next : Nat → Nat) (claimed chain : List Nat),
    let r := x.walk next claimed
    let n := (x.length + 255) / 256
    let sound (l : List Nat) := l.Nodup ∧ (∀ b ∈ l, 16 ≤ b ∧ b ≤ 511 ∧ b ∉ claimed ∧ next b ≠ 0)
      ∧ (∀ b ∈ l.head?, b = x.first) ∧ ∀ i b c, l[i]? = some b → l[i + 1]? = some c → next b = c
    (x.length = 0 ∨ 32768 < x.length → r = ([], false))
    ∧ (1 ≤ x.length → x.length ≤ 32768 →
      sound r.1 ∧ r.1.length ≤ n
      ∧ (r = (chain, true) ↔ sound chain ∧ chain.length = n ∧ ∀ b ∈ chain.getLast?, next b = 1)
      ∧ (r.2 = false → r.1.length < n → (∀ b ∈ r.1.getLast?, next b ≠ 1) →
        let b := (r.1.getLast?.map next).getD x.first
        ¬(16 ≤ b ∧ b ≤ 511) ∨ b ∈ claimed ∨ b ∈ r.1 ∨ next b = 0)))
  ∧ (∀ (s : State) (p : PageId) (d : Directory) (ng : Nat) (r : MountResult), d.storable →
    (s.mountOn p (encodePage d ng) r).ss.dir = d)
  ∧ (∀ p : List Byte,
    (pageValid p = true ↔ field p 0 4 = 0x7A3C51E6 ∧ field p 4 4 ≠ 0 ∧ field p 2042 4 = field p 4 4
      ∧ field p 2046 2 = (crc16From 0xFFFF (p.take 2046)).toNat)
    ∧ pageGen p = field p 4 4 ∧ pageDhw p = field p 8 2 ∧ pageNg p = field p 10 1)
  ∧ (∀ g h : Nat, nextGen g = (if g = 4294967295 then 1 else g + 1)
    ∧ (h ≤ g → g ≤ 4294967295 → (higherGen g h = true ↔ 1 ≤ g - h ∧ g - h ≤ 2147483647)
      ∧ (higherGen h g = true ↔ 2147483649 ≤ g - h)))
  ∧ (∀ (s : State) (p : PageId) (page : List Byte) (r : MountResult),
    let t := s.mountOn p page r
    let logged := (slotNumbers.filter fun slot =>
        (t.ss.dir.slots[slot].body.map fun b => b.damaged) == some true
          && (pageSlot page slot).state == .valid).foldl
      (fun (u : State) slot => u.postFault .slotDamaged
        (if slot.val < s.bl.cfg.ng then .game else .system) (some slot.val)) s
    let built : State := { logged with ss := { s.ss with
      result := some r, active := some p, headerNg := some (pageNg page)
      dir := { gen := pageGen page, dhw := pageDhw page, slots := t.ss.dir.slots } } }
    t = if s.bl.cfg.scan = true then State.scanFrom (List.finRange 32) built else built.completeMount)
  ∧ (∀ (s : State) (slot : Fin 32) (rest : List (Fin 32)),
    let body := s.ss.dir.slots[slot].body
    State.scanFrom [] s = s.completeMount
    ∧ (body = none ∨ (∃ b, body = some b ∧ b.damaged = true) →
      State.scanFrom (slot :: rest) s = State.scanFrom rest s)
    ∧ ∀ b mt, body = some b → b.damaged = false → s.ss.mount = some mt →
      let sc : Scan := { slot := slot, crc := 0xFFFF, contentLeft := b.length
                         burstsLeft := 8 * b.chain.length, rest := rest }
      State.scanFrom (slot :: rest) s = { s with ss := { s.ss with
        mount := some { mt with scan := some sc }
        ops := s.ss.ops ++ b.chain.flatMap fun k => (List.range 8).map fun i =>
          { owner := .mountScan, addr := 256 * k + 32 * i, bytes := none } } })
  ∧ (∀ (s : State) (slot : Fin 32),
    let e := s.ss.dir.slots[slot]
    let marked : SlotEntry := { e with body := e.body.map fun b => { b with damaged := true } }
    s.markSlot slot = ({ s with ss := { s.ss with dir := { s.ss.dir with
        slots := putAt s.ss.dir.slots slot marked } } } : State).postFault .slotDamaged
      (if slot.val < s.bl.cfg.ng then .game else .system) (some slot.val))

/-! ## The fault log -/

/-- A posted fault: dropped and counted in overflow; coalesced with an equal newest record; otherwise written at
W, or dropped into overflow when that record is valid. A valid record keeps its kind, subject and time whatever
comes. A master is told when it had no valid record concerning it and has one now. Only the log and the notice
queues change (R143 to R145). -/
def Obligations.FaultTaken : Prop :=
  ∀ (s : State) (k : FaultKind) (c : Concerned) (x : Option Nat),
    let fl := s.fl
    let t := s.postFault k c x
    let told (i : Fin 8) := ∀ m : Master, t.queues m =
      if (∀ j : Fin 8, fl.records[j].concerns m = false) ∧ t.fl.records[i].concerned.includes m = true then
        (s.queues m).post (.faultLogged i t.fl.records[i].kind t.fl.records[i].concerned
          t.fl.records[i].subject)
      else s.queues m
    let newest (i : Fin 8) := ∃ d : Fin 8, i = fl.w - 1 - d ∧ fl.records[i].valid = true
      ∧ ∀ e : Fin 8, e < d → fl.records[fl.w - 1 - e].valid = false
    let equal (i : Fin 8) := fl.records[i].kind = k ∧ fl.records[i].subject = x
    (fl.overflow = true → t = { s with fl := { fl with lost := min 255 (fl.lost + 1) } })
    ∧ (∀ i, fl.overflow = false → newest i → equal i →
      t.fl = { fl with records := putAt fl.records i { fl.records[i] with
        repeats := min 255 (fl.records[i].repeats + 1)
        concerned := if fl.records[i].concerned = c then c else .both } } ∧ told i)
    ∧ (fl.overflow = false → (∀ i, newest i → ¬equal i) → fl.records[fl.w].valid = true →
      t = { s with fl := { fl with overflow := true, lost := min 255 (fl.lost + 1) } })
    ∧ (fl.overflow = false → (∀ i, newest i → ¬equal i) → fl.records[fl.w].valid = false →
      t.fl = { fl with
        records := putAt fl.records fl.w
          { valid := true, kind := k, concerned := c, subject := x, sec := s.bd.sec, repeats := 1 }
        w := fl.w + 1 } ∧ told fl.w)
    ∧ (∀ i : Fin 8, fl.records[i].valid = true → t.fl.records[i].valid = true
      ∧ t.fl.records[i].kind = fl.records[i].kind ∧ t.fl.records[i].subject = fl.records[i].subject
      ∧ t.fl.records[i].sec = fl.records[i].sec)
    ∧ t = { s with fl := t.fl, game := t.game, sys := t.sys }
    ∧ ∃ g y, t.game = { s.game with q := g } ∧ t.sys = { s.sys with q := y }

/-- FAULT_READ reports one record and the log as a whole; FAULT_CLEAR clears one record, a master's own, or the
overflow, and reports what it cleared. The game processor clears only records that concern GAME alone and never
the overflow. The first pending index is the first valid one from W on (R143, R146 to R148; the one reply layout
for the three selectors is log entry 13). -/
def Obligations.FaultRequests : Prop :=
  (∀ (fl : FaultLog) (i : Fin 8), fl.firstPending = some i ↔ ∃ d : Fin 8, i = fl.w + d
    ∧ fl.records[i].valid = true ∧ ∀ e : Fin 8, e < d → fl.records[fl.w + e].valid = false)
  ∧ (∀ (m : Master) (tag b : Byte) (s : State), s.takes m .running → 8 ≤ b.toNat →
    exec (.faultRead m tag b) s = .next (s.withReply m 0x48 tag .range [])
    ∧ exec (.faultClearIndex m tag b) s = .next (s.withReply m 0x49 tag .range []))
  ∧ (∀ (m : Master) (tag b : Byte) (i : Fin 8) (s : State), s.takes m .running → b.toNat = i.val →
    let fl := s.fl
    let r := fl.records[i]
    let count (l : FaultLog) (p : FaultRecord → Bool) : Nat :=
      ((List.finRange 8).filter fun (j : Fin 8) => p l.records[j]).length
    let reply (cleared : Nat) (l : FaultLog) : State :=
      ({ s with fl := l } : State).withReply m 0x49 tag .ok ((1 :: u8 cleared)
        ++ optional 1 (l.firstPending.map fun j => u8 j.val)
        ++ (1 :: u8 (count l fun q => q.concerns m)) ++ [0, 0, 0, 0])
    let mine (q : FaultRecord) : Bool := q.valid && (match m with
      | .game => q.concerned == .game
      | .system => q.concerned == .system || q.concerned == .both)
    exec (.faultRead m tag b) s = .next (s.withReply m 0x48 tag .ok
      ((if r.valid then flag true ++ (1 :: u8 r.kind.code) ++ (1 :: u8 r.concerned.code)
          ++ optional 1 (r.subject.map u8) ++ (1 :: u32 r.sec) ++ (1 :: u8 r.repeats)
        else List.replicate 14 0)
      ++ u8 fl.w.val ++ optional 1 (fl.firstPending.map fun j => u8 j.val)
      ++ u8 (count fl fun q => q.concerns m) ++ flag fl.overflow ++ u8 fl.lost))
    ∧ exec (.faultClearIndex m tag b) s = .next (
      if r.valid = false then reply 0 fl
      else if m = .game ∧ r.concerned ≠ .game then s.withReply m 0x49 tag .denied []
      else reply 1 { fl with records := putAt fl.records i { r with valid := false } })
    ∧ exec (.faultClearAllMine m tag) s = .next (reply (count fl mine)
      { fl with records := fl.records.map fun q => if mine q then { q with valid := false } else q }))
  ∧ (∀ (tag : Byte) (s : State), s.takes .system .running →
    exec (.faultClearOverflow .system tag) s = .next
      (({ s with fl := { s.fl with overflow := false, lost := 0 } } : State).withReply .system 0x49 tag
        .ok ([0, 0, 0, 0, 0, 0] ++ (1 :: flag s.fl.overflow) ++ (1 :: u8 s.fl.lost))))
  ∧ (∀ (tag : Byte) (s : State), s.takes .game .running →
    exec (.faultClearOverflow .game tag) s = .next (s.withReply .game 0x49 tag .denied []))

/-! ## Supply, start-up and reset -/

/-- Console power-up: every console block at its initial values (the configuration values before the read are log
entry 11), the write gate open, the battery domain kept but for its marker (restarted when the battery was lost),
the level and the battery faults, and the first configuration burst granted (R153, R156). The configuration bursts:
the first is gathered, a discarded one dropped; after the second the block's fields, each brought into its range,
with the count of those changed, or the built-in defaults with CONFIG_INVALID, are in force in the mixer and the
driver; strength 0 is DISABLED, an active cutoff input is taken as going active; and the store mounts (R55, R157 to
R159, R175). The carrier counter stands through the load (log entry 33), the mount's page reads are placed at once
(log entry 23) and before the grant decision (log entry 26). A field is a little-endian number; a value in its range
is kept. The initial values are those of the state after reset but for the cutoff input's level (R20, R21, R39, R47,
R55, R77, R99, R149, R163); the built-in defaults are R158's. -/
def Obligations.PowerAndConfig : Prop :=
  (∀ (weak : Bool) (s : State), s.powered = false →
    let bd := if s.bm.supply = .batteryLost then BatteryDomain.restarted else s.bd
    ∃ t, exec (.consolePowerUp weak) s = .next t
      ∧ t = { s.consoleInitial with
          bd := { bd with gateOpen := true, marker := false }
          bm := { supply := .consoleOn, weak := weak, lostAtPowerUp := bd.marker, weakLogged := weak }
          bl := { phase := .loading, cfg := builtIn, source := .none, clamped := 0, granted := 1
                  bytes := [] }
          pma := { inFlight := some (.boot 0 false), runCount := 0 }
          fl := t.fl
          game := t.game
          sys := t.sys }
      ∧ (weak = false → bd.marker = false → t.fl = FaultLog.initial ∧ t.game = GamePort.initial
        ∧ t.sys = SystemPort.initial)
      ∧ (weak = true → t.fl.records[0] = { valid := true, kind := .batteryWeak, concerned := .both
                                           subject := none, sec := bd.sec, repeats := 1 })
      ∧ (bd.marker = true → t.fl.records[(if weak then 1 else 0 : Fin 8)] =
        { valid := true, kind := .batteryLost, concerned := .both, subject := none, sec := bd.sec
          repeats := 1 }))
  ∧ (∀ s : State, s.powered = true → s.pma.inFlight = some (.boot 0 false) →
    exec .configBurstComplete s = .next (State.arbitrate { s with
      pma := { s.pma with inFlight := none }
      bl := { s.bl with bytes := s.bl.bytes ++ s.rom.readBytes romBlank 0 32 } }))
  ∧ (∀ (i : Nat) (s : State), s.powered = true → s.pma.inFlight = some (.boot i true) → i ≤ 1 →
    exec .configBurstComplete s = .next
      (State.arbitrate { s with pma := { s.pma with inFlight := none } }))
  ∧ (∀ s : State, s.powered = true → s.pma.inFlight = some (.boot 1 false) →
    let b := s.bl.bytes ++ s.rom.readBytes romBlank 32 32
    let good := field b 0 4 = 0xD41E7B02 ∧ field b 62 2 = (crc16 (b.take 62)).toNat
    let within (low high at' width : Nat) := max low (min high (field b at' width))
    let changed (low high at' width : Nat) :=
      if low ≤ field b at' width ∧ field b at' width ≤ high then 0 else 1
    let pc := within 256 2047 20 2
    let block : LoadedConfig :=
      { romBytes := within 64 16777216 4 4, ng := within 1 30 8 1
        visible := decide (field b 9 1 ≠ 0), maxLength := within 256 32768 10 2
        scan := decide (field b 12 1 ≠ 0), guarantee := within 0 4 13 1
        gameLevel := within 0 255 14 2, systemLevel := within 0 255 16 2, strength := within 0 4 18 1
        tb := within 0 15 19 1, pc := pc, td := within 1 255 22 2, tm := within 0 pc 24 2
        dutyCap := within 1 100 26 1, boundary := within 0 86399 28 4 }
    let cfg := if good then block else builtIn
    let clamped := changed 64 16777216 4 4 + changed 1 30 8 1 + changed 256 32768 10 2
      + changed 0 4 13 1 + changed 0 255 14 2 + changed 0 255 16 2 + changed 0 4 18 1 + changed 0 15 19 1
      + changed 256 2047 20 2 + changed 1 255 22 2 + changed 0 pc 24 2 + changed 1 100 26 1
      + changed 0 86399 28 4
    let strong : Rumble := { s.rd with strength := cfg.strength, staleTimer := 819200 }
    let driver := if s.rd.enabled = false ∨ cfg.strength = 0 then strong.force cfg.td .disabled else strong
    let loaded : State := { s with
      pma := { s.pma with inFlight := none }
      bl := { s.bl with
        phase := .loaded, cfg := cfg, bytes := b
        source := if good then .block else .defaults
        clamped := if good then clamped else 0 }
      mx := { s.mx with mg := cfg.gameLevel, ms := cfg.systemLevel }
      rd := driver
      ss := { s.ss with
        state := .mounting, mount := some { pageA := [], pageB := [], scan := none }
        dir := Directory.initial
        ops := s.ss.ops
          ++ (List.range 64).map (fun i =>
            { owner := .mountPage .a i, addr := 32 * i, bytes := none })
          ++ (List.range 64).map (fun i =>
            { owner := .mountPage .b i, addr := 2048 + 32 * i, bytes := none }) } }
    let judged := if good then loaded else loaded.postFault .configInvalid .both none
    let cut : State := { judged with rd := driver.force cfg.td .cutoff }
    exec .configBurstComplete s = .next (State.arbitrate (
      if s.rd.cutoffInput = true then (cut.postMotor .cutoffInput).postFault .motorCutoff .both none
      else judged)))
  ∧ (∀ c : LoadedConfig, let k := clampConfig c
    (64 ≤ k.romBytes ∧ k.romBytes ≤ 16777216 ∧ 1 ≤ k.ng ∧ k.ng ≤ 30 ∧ 256 ≤ k.maxLength
      ∧ k.maxLength ≤ 32768 ∧ k.guarantee ≤ 4 ∧ k.gameLevel ≤ 255 ∧ k.systemLevel ≤ 255
      ∧ k.strength ≤ 4 ∧ 256 ≤ k.pc ∧ k.pc ≤ 2047 ∧ 1 ≤ k.td ∧ k.td ≤ 255 ∧ k.tm ≤ k.pc
      ∧ 1 ≤ k.dutyCap ∧ k.dutyCap ≤ 100 ∧ k.tb ≤ 15 ∧ k.boundary ≤ 86399)
    ∧ clampConfig k = k ∧ clampedCount k = 0 ∧ (clampedCount c = 0 → k = c))
  ∧ (∀ s : State,
    let r := State.reset
    s.consoleInitial = { s with
      voices := r.voices, age := [], mx := r.mx, channels := r.channels, pma := r.pma
      rd := { r.rd with cutoffInput := s.rd.cutoffInput }, gc := r.gc, ss := r.ss, fl := r.fl
      bm := { supply := .consoleOn, weak := false, lostAtPowerUp := false, weakLogged := false }
      bl := r.bl, game := r.game, sys := r.sys }
    ∧ Mixer.initial = r.mx ∧ (∀ x, Rumble.initial x = { r.rd with cutoffInput := x })
    ∧ ClockConsole.initial = r.gc ∧ Store.initial = r.ss ∧ FaultLog.initial = r.fl
    ∧ GamePort.initial = r.game ∧ SystemPort.initial = r.sys ∧ BatteryDomain.restarted = r.bd)
  ∧ builtIn =
    { romBytes := 64, ng := 24, maxLength := 8192, visible := true, scan := true, guarantee := 2
      gameLevel := 128, systemLevel := 128, strength := 3, pc := 819, td := 33, tm := 80, dutyCap := 85
      tb := 4, boundary := 0 }
  ∧ ∀ (bytes : List Byte) (at' width : Nat), field bytes at' 0 = 0
      ∧ field bytes at' (width + 1) =
        ((bytes[at']?).map (·.toNat)).getD 0 + 256 * field bytes (at' + 1) width

/-- Console reset: every voice FREE, with its generation and the fields of its last use kept; every channel IDLE,
empty, its counts 0 (its addresses log entry 11); a burst in flight runs on, one of a page write as it is, one of a
fetch channel with the channel's discard mark, any other store burst (its bytes, if it writes, by log entry 39) and
a configuration burst marked to be discarded; mixer, clock's console half, driver and ports at their initial values,
a frame being sent cut off; the store dropped but for the page write in flight and the working directory, which the
mount discards; the built-in configuration in force again (log entry 11); the battery domain, the fault log, the
monitor and both memories kept; HELD. The release starts the configuration read, its first grant in the same step
(log entry 26), or waits for the page write. In HELD a frame is silent. The supply failing closes the gate, latches
the cutoff with every gate off and its leg's guard at Td (R58), silences the line and ends the console domain, in
which no request is then taken; of SRAM it changes only bytes of the write burst in flight, each kept or written,
and the last byte of a page write that has begun, whose page then is not valid (R98, R136; log entry 8). What then
stands of the console domain is log entry 16. The battery's own events; in BATTERY_LOST the battery domain's items
stand until the restart (log entry 45); SRAM that has lost its contents reads as log entry 6 says; that the rest of
a frame coming in at a console reset is forgotten is log entry 49 (R20, R36, R39, R67, R112, R135, R150, R154, R155,
R161, R162, R166). -/
def Obligations.ResetAndSupply : Prop :=
  (∀ s : State, s.powered = true → ∃ t, exec .consoleReset s = .next t
    ∧ (∀ v : Fin 16, t.voices[v].state = .free ∧ t.voices[v].gen = s.voices[v].gen
      ∧ t.voices[v].level = 0 ∧ t.voices[v].starve = 0 ∧ t.voices[v].pendingStep = none
      ∧ t.voices[v].pendingVolume = none ∧ t.voices[v].pendingPan = none
      ∧ t.voices[v] = { s.voices[v] with
          state := .free, level := 0, starve := 0, last := ⟨0, 0, 0⟩
          pendingStep := none, pendingVolume := none, pendingPan := none
          phase := if s.voices[v].state ≠ .free then none else s.voices[v].phase
          endReason := if s.voices[v].state ≠ .free then some .reset else s.voices[v].endReason }
      ∧ t.channels[v] =
        { state := .idle, bps := 1, next := 0, toEnd := 0, loopAddr := none, fifo := [], skip := 0
          inFlight := s.channels[v].inFlight, discard := s.channels[v].inFlight }
      ∧ t.voices[v].endReason =
        (if s.voices[v].state ≠ .free then some .reset else s.voices[v].endReason)
      ∧ t.channels[v].state = .idle ∧ t.channels[v].fifo = [] ∧ t.channels[v].skip = 0
      ∧ t.channels[v].inFlight = s.channels[v].inFlight
      ∧ t.channels[v].discard = s.channels[v].inFlight)
    ∧ t.age = [] ∧ t.pma.runCount = 0 ∧ (t.pma.inFlight = none ↔ s.pma.inFlight = none)
    ∧ (∀ v addr len, s.pma.inFlight = some (.fetch v addr len) → t.pma.inFlight = s.pma.inFlight)
    ∧ (∀ op d i, s.pma.inFlight = some (.store op d) → op.owner = .page i →
      t.pma.inFlight = s.pma.inFlight)
    ∧ (∀ op d, s.pma.inFlight = some (.store op d) → (∀ i, op.owner ≠ .page i) →
      t.pma.inFlight = some (.store op true))
    ∧ (∀ i d, s.pma.inFlight = some (.boot i d) → t.pma.inFlight = some (.boot i true))
    ∧ t = { s with
        voices := t.voices
        age := []
        mx := Mixer.initial
        channels := t.channels
        pma := t.pma
        rd := Rumble.initial s.rd.cutoffInput
        gc := ClockConsole.initial
        ss := { Store.initial with
          dir := s.ss.dir
          ops := s.ss.ops.filter fun op => op.owner.isPage
          pageWrite := s.ss.pageWrite.map fun w => { w with orphan := true } }
        bl := { s.bl with phase := .held, cfg := builtIn, granted := 0, bytes := [] }
        game := GamePort.initial
        sys := SystemPort.initial
        linkOut := if s.sys.sent = 0 then s.linkOut else s.oldestFrame.take s.sys.sent })
  ∧ (∀ s : State, s.powered = true → s.bl.phase = .held →
    (s.ss.pageWrite.isSome = true →
      exec .resetRelease s = .next { s with bl := { s.bl with phase := .waiting } })
    ∧ (s.ss.pageWrite = none → exec .resetRelease s = .next (State.arbitrate
      { s with bl := { s.bl with phase := .loading, granted := 0, bytes := [] } }))
    ∧ exec .audioFrame s = .next
      { s with mx := { s.mx with outL := 0, outR := 0, nextL := 0, nextR := 0 } })
  ∧ (∀ (able : Bool) (s : State), s.powered = true → ∃ t, exec (.supplyFailing able) s = .next t
    ∧ t.bm = { s.bm with supply := if able then .batteryHold else .batteryLost }
    ∧ t.bd = { s.bd with gateOpen := false }
    ∧ t.rd.state = .cutoff ∧ t.rd.duty = 0 ∧ t.rd.pending = none ∧ t.rd.legA.high = false
    ∧ t.rd.legA.low = false ∧ t.rd.legB.high = false ∧ t.rd.legB.low = false
    ∧ t.mx.outL = 0 ∧ t.mx.outR = 0 ∧ t.audioLine = List.replicate 32 false ∧ t.rom = s.rom
    ∧ (∀ leg : Leg,
      let l := s.rd.leg leg
      (t.rd.leg leg).guard = if l.low = true then ⟨s.bl.cfg.td, some .low⟩
        else if l.high = true then ⟨s.bl.cfg.td, some .high⟩ else l.guard)
    ∧ (Memory.wf sramBlank s.sram →
      let begun (w : PageWrite) := s.ss.pageWrite = some w
        ∧ (w.left < 64 ∨ ∃ op d i, s.pma.inFlight = some (.store op d) ∧ op.owner = .page i)
      let base (w : PageWrite) := match w.target with
        | .a => 0
        | .b => 2048
      (∀ w, begun w → pageValid (t.sram.readBytes sramBlank (base w) 2048) = false)
      ∧ ∀ a, t.sram.read sramBlank a = s.sram.read sramBlank a
        ∨ (s.bd.gateOpen = true ∧ ∃ op d bytes, s.pma.inFlight = some (.store op d)
          ∧ op.bytes = some bytes ∧ op.addr ≤ a ∧ a < op.addr + 32
          ∧ t.sram.read sramBlank a = (bytes[a - op.addr]?).getD 0)
        ∨ ∃ w, begun w ∧ a = base w + 2047)
    ∧ (∀ (m : Master) (tag : Byte) (q : Req) (c : Instr), requestCommand m tag q = some c →
      exec c t = .next t))
  ∧ (∀ s : State, s.bm.supply = .batteryHold →
    exec .batteryLoss s = .next { s with bm := { s.bm with supply := .batteryLost } })
  ∧ (∀ s : State, s.bm.supply = .batteryLost →
    exec .batteryDomainRestart s = .next
      { s with bd := BatteryDomain.restarted, bm := { s.bm with supply := .batteryHold } }
    ∧ exec .sramContentsLost s = .next { s with sram := [] })
end

