-- ==== Sys2Proof/Laws/State.lean ====
section
/-! SUPPORT. One lemma per field per update of State: what a named update leaves, true by rfl, and what it
sets. Later proofs cite these and unfold no record update. -/

namespace Sys2Proof.Machine

/-! ## setVoice -/

@[simp] theorem State.setVoice_age (s : State) (v : Fin 16) (x : Voice) :
    (s.setVoice v x).age = s.age := rfl

@[simp] theorem State.setVoice_mx (s : State) (v : Fin 16) (x : Voice) :
    (s.setVoice v x).mx = s.mx := rfl

@[simp] theorem State.setVoice_channels (s : State) (v : Fin 16) (x : Voice) :
    (s.setVoice v x).channels = s.channels := rfl

@[simp] theorem State.setVoice_pma (s : State) (v : Fin 16) (x : Voice) :
    (s.setVoice v x).pma = s.pma := rfl

@[simp] theorem State.setVoice_rd (s : State) (v : Fin 16) (x : Voice) :
    (s.setVoice v x).rd = s.rd := rfl

@[simp] theorem State.setVoice_bd (s : State) (v : Fin 16) (x : Voice) :
    (s.setVoice v x).bd = s.bd := rfl

@[simp] theorem State.setVoice_gc (s : State) (v : Fin 16) (x : Voice) :
    (s.setVoice v x).gc = s.gc := rfl

@[simp] theorem State.setVoice_ss (s : State) (v : Fin 16) (x : Voice) :
    (s.setVoice v x).ss = s.ss := rfl

@[simp] theorem State.setVoice_fl (s : State) (v : Fin 16) (x : Voice) :
    (s.setVoice v x).fl = s.fl := rfl

@[simp] theorem State.setVoice_bm (s : State) (v : Fin 16) (x : Voice) :
    (s.setVoice v x).bm = s.bm := rfl

@[simp] theorem State.setVoice_bl (s : State) (v : Fin 16) (x : Voice) :
    (s.setVoice v x).bl = s.bl := rfl

@[simp] theorem State.setVoice_game (s : State) (v : Fin 16) (x : Voice) :
    (s.setVoice v x).game = s.game := rfl

@[simp] theorem State.setVoice_sys (s : State) (v : Fin 16) (x : Voice) :
    (s.setVoice v x).sys = s.sys := rfl

@[simp] theorem State.setVoice_rom (s : State) (v : Fin 16) (x : Voice) :
    (s.setVoice v x).rom = s.rom := rfl

@[simp] theorem State.setVoice_sram (s : State) (v : Fin 16) (x : Voice) :
    (s.setVoice v x).sram = s.sram := rfl

@[simp] theorem State.setVoice_busData (s : State) (v : Fin 16) (x : Voice) :
    (s.setVoice v x).busData = s.busData := rfl

@[simp] theorem State.setVoice_linkOut (s : State) (v : Fin 16) (x : Voice) :
    (s.setVoice v x).linkOut = s.linkOut := rfl

@[simp] theorem State.setVoice_free (s : State) (v : Fin 16) (x : Voice) :
    (s.setVoice v x).free = s.free := rfl

@[simp] theorem State.setVoice_pending (s : State) (v : Fin 16) (x : Voice) :
    (s.setVoice v x).pending = s.pending := rfl

@[simp] theorem State.setVoice_voices (s : State) (v : Fin 16) (x : Voice) :
    (s.setVoice v x).voices = putAt s.voices v x := rfl

/-! ## setChannel -/

@[simp] theorem State.setChannel_voices (s : State) (v : Fin 16) (c : Channel) :
    (s.setChannel v c).voices = s.voices := rfl

@[simp] theorem State.setChannel_age (s : State) (v : Fin 16) (c : Channel) :
    (s.setChannel v c).age = s.age := rfl

@[simp] theorem State.setChannel_mx (s : State) (v : Fin 16) (c : Channel) :
    (s.setChannel v c).mx = s.mx := rfl

@[simp] theorem State.setChannel_pma (s : State) (v : Fin 16) (c : Channel) :
    (s.setChannel v c).pma = s.pma := rfl

@[simp] theorem State.setChannel_rd (s : State) (v : Fin 16) (c : Channel) :
    (s.setChannel v c).rd = s.rd := rfl

@[simp] theorem State.setChannel_bd (s : State) (v : Fin 16) (c : Channel) :
    (s.setChannel v c).bd = s.bd := rfl

@[simp] theorem State.setChannel_gc (s : State) (v : Fin 16) (c : Channel) :
    (s.setChannel v c).gc = s.gc := rfl

@[simp] theorem State.setChannel_ss (s : State) (v : Fin 16) (c : Channel) :
    (s.setChannel v c).ss = s.ss := rfl

@[simp] theorem State.setChannel_fl (s : State) (v : Fin 16) (c : Channel) :
    (s.setChannel v c).fl = s.fl := rfl

@[simp] theorem State.setChannel_bm (s : State) (v : Fin 16) (c : Channel) :
    (s.setChannel v c).bm = s.bm := rfl

@[simp] theorem State.setChannel_bl (s : State) (v : Fin 16) (c : Channel) :
    (s.setChannel v c).bl = s.bl := rfl

@[simp] theorem State.setChannel_game (s : State) (v : Fin 16) (c : Channel) :
    (s.setChannel v c).game = s.game := rfl

@[simp] theorem State.setChannel_sys (s : State) (v : Fin 16) (c : Channel) :
    (s.setChannel v c).sys = s.sys := rfl

@[simp] theorem State.setChannel_rom (s : State) (v : Fin 16) (c : Channel) :
    (s.setChannel v c).rom = s.rom := rfl

@[simp] theorem State.setChannel_sram (s : State) (v : Fin 16) (c : Channel) :
    (s.setChannel v c).sram = s.sram := rfl

@[simp] theorem State.setChannel_busData (s : State) (v : Fin 16) (c : Channel) :
    (s.setChannel v c).busData = s.busData := rfl

@[simp] theorem State.setChannel_linkOut (s : State) (v : Fin 16) (c : Channel) :
    (s.setChannel v c).linkOut = s.linkOut := rfl

@[simp] theorem State.setChannel_free (s : State) (v : Fin 16) (c : Channel) :
    (s.setChannel v c).free = s.free := rfl

@[simp] theorem State.setChannel_pending (s : State) (v : Fin 16) (c : Channel) :
    (s.setChannel v c).pending = s.pending := rfl

@[simp] theorem State.setChannel_channels (s : State) (v : Fin 16) (c : Channel) :
    (s.setChannel v c).channels = putAt s.channels v c := rfl

/-! ## setStore -/

@[simp] theorem State.setStore_voices (s : State) (x : Store) :
    (s.setStore x).voices = s.voices := rfl

@[simp] theorem State.setStore_age (s : State) (x : Store) :
    (s.setStore x).age = s.age := rfl

@[simp] theorem State.setStore_mx (s : State) (x : Store) :
    (s.setStore x).mx = s.mx := rfl

@[simp] theorem State.setStore_channels (s : State) (x : Store) :
    (s.setStore x).channels = s.channels := rfl

@[simp] theorem State.setStore_pma (s : State) (x : Store) :
    (s.setStore x).pma = s.pma := rfl

@[simp] theorem State.setStore_rd (s : State) (x : Store) :
    (s.setStore x).rd = s.rd := rfl

@[simp] theorem State.setStore_bd (s : State) (x : Store) :
    (s.setStore x).bd = s.bd := rfl

@[simp] theorem State.setStore_gc (s : State) (x : Store) :
    (s.setStore x).gc = s.gc := rfl

@[simp] theorem State.setStore_fl (s : State) (x : Store) :
    (s.setStore x).fl = s.fl := rfl

@[simp] theorem State.setStore_bm (s : State) (x : Store) :
    (s.setStore x).bm = s.bm := rfl

@[simp] theorem State.setStore_bl (s : State) (x : Store) :
    (s.setStore x).bl = s.bl := rfl

@[simp] theorem State.setStore_game (s : State) (x : Store) :
    (s.setStore x).game = s.game := rfl

@[simp] theorem State.setStore_sys (s : State) (x : Store) :
    (s.setStore x).sys = s.sys := rfl

@[simp] theorem State.setStore_rom (s : State) (x : Store) :
    (s.setStore x).rom = s.rom := rfl

@[simp] theorem State.setStore_sram (s : State) (x : Store) :
    (s.setStore x).sram = s.sram := rfl

@[simp] theorem State.setStore_busData (s : State) (x : Store) :
    (s.setStore x).busData = s.busData := rfl

@[simp] theorem State.setStore_linkOut (s : State) (x : Store) :
    (s.setStore x).linkOut = s.linkOut := rfl

@[simp] theorem State.setStore_free (s : State) (x : Store) :
    (s.setStore x).free = s.free := rfl

@[simp] theorem State.setStore_pending (s : State) (x : Store) :
    (s.setStore x).pending = s.pending := rfl

@[simp] theorem State.setStore_ss (s : State) (x : Store) :
    (s.setStore x).ss = x := rfl

/-! ## setQueues -/

@[simp] theorem State.setQueues_voices (s : State) (m : Master) (q : Queues) :
    (s.setQueues m q).voices = s.voices := by
  cases m <;> rfl

@[simp] theorem State.setQueues_age (s : State) (m : Master) (q : Queues) :
    (s.setQueues m q).age = s.age := by
  cases m <;> rfl

@[simp] theorem State.setQueues_mx (s : State) (m : Master) (q : Queues) :
    (s.setQueues m q).mx = s.mx := by
  cases m <;> rfl

@[simp] theorem State.setQueues_channels (s : State) (m : Master) (q : Queues) :
    (s.setQueues m q).channels = s.channels := by
  cases m <;> rfl

@[simp] theorem State.setQueues_pma (s : State) (m : Master) (q : Queues) :
    (s.setQueues m q).pma = s.pma := by
  cases m <;> rfl

@[simp] theorem State.setQueues_rd (s : State) (m : Master) (q : Queues) :
    (s.setQueues m q).rd = s.rd := by
  cases m <;> rfl

@[simp] theorem State.setQueues_bd (s : State) (m : Master) (q : Queues) :
    (s.setQueues m q).bd = s.bd := by
  cases m <;> rfl

@[simp] theorem State.setQueues_gc (s : State) (m : Master) (q : Queues) :
    (s.setQueues m q).gc = s.gc := by
  cases m <;> rfl

@[simp] theorem State.setQueues_ss (s : State) (m : Master) (q : Queues) :
    (s.setQueues m q).ss = s.ss := by
  cases m <;> rfl

@[simp] theorem State.setQueues_fl (s : State) (m : Master) (q : Queues) :
    (s.setQueues m q).fl = s.fl := by
  cases m <;> rfl

@[simp] theorem State.setQueues_bm (s : State) (m : Master) (q : Queues) :
    (s.setQueues m q).bm = s.bm := by
  cases m <;> rfl

@[simp] theorem State.setQueues_bl (s : State) (m : Master) (q : Queues) :
    (s.setQueues m q).bl = s.bl := by
  cases m <;> rfl

@[simp] theorem State.setQueues_rom (s : State) (m : Master) (q : Queues) :
    (s.setQueues m q).rom = s.rom := by
  cases m <;> rfl

@[simp] theorem State.setQueues_sram (s : State) (m : Master) (q : Queues) :
    (s.setQueues m q).sram = s.sram := by
  cases m <;> rfl

@[simp] theorem State.setQueues_busData (s : State) (m : Master) (q : Queues) :
    (s.setQueues m q).busData = s.busData := by
  cases m <;> rfl

@[simp] theorem State.setQueues_linkOut (s : State) (m : Master) (q : Queues) :
    (s.setQueues m q).linkOut = s.linkOut := by
  cases m <;> rfl

@[simp] theorem State.setQueues_free (s : State) (m : Master) (q : Queues) :
    (s.setQueues m q).free = s.free := by
  cases m <;> rfl

@[simp] theorem State.setQueues_pending (s : State) (m : Master) (q : Queues) :
    (s.setQueues m q).pending = s.pending := by
  cases m <;> rfl

@[simp] theorem State.setQueues_queues (s : State) (m : Master) (q : Queues) :
    (s.setQueues m q).queues m = q := by
  cases m <;> rfl

@[simp] theorem State.setQueues_queues_other (s : State) (m : Master) (q : Queues) :
    (s.setQueues m q).queues m.other = s.queues m.other := by
  cases m <;> rfl

@[simp] theorem State.setQueues_setQueues (s : State) (m : Master) (p q : Queues) :
    (s.setQueues m p).setQueues m q = s.setQueues m q := by
  cases m <;> rfl

@[simp] theorem State.setQueues_self (s : State) (m : Master) : s.setQueues m (s.queues m) = s := by
  cases m <;> rfl

/-! ## withReply -/

@[simp] theorem State.withReply_voices (s : State) (m : Master) (k tag : Byte) (c : Code) (r : List Byte) :
    (s.withReply m k tag c r).voices = s.voices := by
  cases m <;> rfl

@[simp] theorem State.withReply_age (s : State) (m : Master) (k tag : Byte) (c : Code) (r : List Byte) :
    (s.withReply m k tag c r).age = s.age := by
  cases m <;> rfl

@[simp] theorem State.withReply_mx (s : State) (m : Master) (k tag : Byte) (c : Code) (r : List Byte) :
    (s.withReply m k tag c r).mx = s.mx := by
  cases m <;> rfl

@[simp] theorem State.withReply_channels (s : State) (m : Master) (k tag : Byte) (c : Code) (r : List Byte) :
    (s.withReply m k tag c r).channels = s.channels := by
  cases m <;> rfl

@[simp] theorem State.withReply_pma (s : State) (m : Master) (k tag : Byte) (c : Code) (r : List Byte) :
    (s.withReply m k tag c r).pma = s.pma := by
  cases m <;> rfl

@[simp] theorem State.withReply_rd (s : State) (m : Master) (k tag : Byte) (c : Code) (r : List Byte) :
    (s.withReply m k tag c r).rd = s.rd := by
  cases m <;> rfl

@[simp] theorem State.withReply_bd (s : State) (m : Master) (k tag : Byte) (c : Code) (r : List Byte) :
    (s.withReply m k tag c r).bd = s.bd := by
  cases m <;> rfl

@[simp] theorem State.withReply_gc (s : State) (m : Master) (k tag : Byte) (c : Code) (r : List Byte) :
    (s.withReply m k tag c r).gc = s.gc := by
  cases m <;> rfl

@[simp] theorem State.withReply_ss (s : State) (m : Master) (k tag : Byte) (c : Code) (r : List Byte) :
    (s.withReply m k tag c r).ss = s.ss := by
  cases m <;> rfl

@[simp] theorem State.withReply_fl (s : State) (m : Master) (k tag : Byte) (c : Code) (r : List Byte) :
    (s.withReply m k tag c r).fl = s.fl := by
  cases m <;> rfl

@[simp] theorem State.withReply_bm (s : State) (m : Master) (k tag : Byte) (c : Code) (r : List Byte) :
    (s.withReply m k tag c r).bm = s.bm := by
  cases m <;> rfl

@[simp] theorem State.withReply_bl (s : State) (m : Master) (k tag : Byte) (c : Code) (r : List Byte) :
    (s.withReply m k tag c r).bl = s.bl := by
  cases m <;> rfl

@[simp] theorem State.withReply_rom (s : State) (m : Master) (k tag : Byte) (c : Code) (r : List Byte) :
    (s.withReply m k tag c r).rom = s.rom := by
  cases m <;> rfl

@[simp] theorem State.withReply_sram (s : State) (m : Master) (k tag : Byte) (c : Code) (r : List Byte) :
    (s.withReply m k tag c r).sram = s.sram := by
  cases m <;> rfl

@[simp] theorem State.withReply_busData (s : State) (m : Master) (k tag : Byte) (c : Code) (r : List Byte) :
    (s.withReply m k tag c r).busData = s.busData := by
  cases m <;> rfl

@[simp] theorem State.withReply_linkOut (s : State) (m : Master) (k tag : Byte) (c : Code) (r : List Byte) :
    (s.withReply m k tag c r).linkOut = s.linkOut := by
  cases m <;> rfl

@[simp] theorem State.withReply_free (s : State) (m : Master) (k tag : Byte) (c : Code) (r : List Byte) :
    (s.withReply m k tag c r).free = s.free := by
  cases m <;> rfl

@[simp] theorem State.withReply_pending (s : State) (m : Master) (k tag : Byte) (c : Code) (r : List Byte) :
    (s.withReply m k tag c r).pending = s.pending := by
  cases m <;> rfl

/-! ## reserveSlot -/

@[simp] theorem State.reserveSlot_voices (s : State) (m : Master) :
    (s.reserveSlot m).voices = s.voices := by
  cases m <;> rfl

@[simp] theorem State.reserveSlot_age (s : State) (m : Master) :
    (s.reserveSlot m).age = s.age := by
  cases m <;> rfl

@[simp] theorem State.reserveSlot_mx (s : State) (m : Master) :
    (s.reserveSlot m).mx = s.mx := by
  cases m <;> rfl

@[simp] theorem State.reserveSlot_channels (s : State) (m : Master) :
    (s.reserveSlot m).channels = s.channels := by
  cases m <;> rfl

@[simp] theorem State.reserveSlot_pma (s : State) (m : Master) :
    (s.reserveSlot m).pma = s.pma := by
  cases m <;> rfl

@[simp] theorem State.reserveSlot_rd (s : State) (m : Master) :
    (s.reserveSlot m).rd = s.rd := by
  cases m <;> rfl

@[simp] theorem State.reserveSlot_bd (s : State) (m : Master) :
    (s.reserveSlot m).bd = s.bd := by
  cases m <;> rfl

@[simp] theorem State.reserveSlot_gc (s : State) (m : Master) :
    (s.reserveSlot m).gc = s.gc := by
  cases m <;> rfl

@[simp] theorem State.reserveSlot_ss (s : State) (m : Master) :
    (s.reserveSlot m).ss = s.ss := by
  cases m <;> rfl

@[simp] theorem State.reserveSlot_fl (s : State) (m : Master) :
    (s.reserveSlot m).fl = s.fl := by
  cases m <;> rfl

@[simp] theorem State.reserveSlot_bm (s : State) (m : Master) :
    (s.reserveSlot m).bm = s.bm := by
  cases m <;> rfl

@[simp] theorem State.reserveSlot_bl (s : State) (m : Master) :
    (s.reserveSlot m).bl = s.bl := by
  cases m <;> rfl

@[simp] theorem State.reserveSlot_rom (s : State) (m : Master) :
    (s.reserveSlot m).rom = s.rom := by
  cases m <;> rfl

@[simp] theorem State.reserveSlot_sram (s : State) (m : Master) :
    (s.reserveSlot m).sram = s.sram := by
  cases m <;> rfl

@[simp] theorem State.reserveSlot_busData (s : State) (m : Master) :
    (s.reserveSlot m).busData = s.busData := by
  cases m <;> rfl

@[simp] theorem State.reserveSlot_linkOut (s : State) (m : Master) :
    (s.reserveSlot m).linkOut = s.linkOut := by
  cases m <;> rfl

@[simp] theorem State.reserveSlot_free (s : State) (m : Master) :
    (s.reserveSlot m).free = s.free := by
  cases m <;> rfl

@[simp] theorem State.reserveSlot_pending (s : State) (m : Master) :
    (s.reserveSlot m).pending = s.pending := by
  cases m <;> rfl

/-! ## setRequests -/

@[simp] theorem State.setRequests_voices (s : State) (m : Master) (rs : List Request) :
    (s.setRequests m rs).voices = s.voices := by
  cases m <;> rfl

@[simp] theorem State.setRequests_age (s : State) (m : Master) (rs : List Request) :
    (s.setRequests m rs).age = s.age := by
  cases m <;> rfl

@[simp] theorem State.setRequests_mx (s : State) (m : Master) (rs : List Request) :
    (s.setRequests m rs).mx = s.mx := by
  cases m <;> rfl

@[simp] theorem State.setRequests_channels (s : State) (m : Master) (rs : List Request) :
    (s.setRequests m rs).channels = s.channels := by
  cases m <;> rfl

@[simp] theorem State.setRequests_pma (s : State) (m : Master) (rs : List Request) :
    (s.setRequests m rs).pma = s.pma := by
  cases m <;> rfl

@[simp] theorem State.setRequests_rd (s : State) (m : Master) (rs : List Request) :
    (s.setRequests m rs).rd = s.rd := by
  cases m <;> rfl

@[simp] theorem State.setRequests_bd (s : State) (m : Master) (rs : List Request) :
    (s.setRequests m rs).bd = s.bd := by
  cases m <;> rfl

@[simp] theorem State.setRequests_gc (s : State) (m : Master) (rs : List Request) :
    (s.setRequests m rs).gc = s.gc := by
  cases m <;> rfl

@[simp] theorem State.setRequests_ss (s : State) (m : Master) (rs : List Request) :
    (s.setRequests m rs).ss = s.ss := by
  cases m <;> rfl

@[simp] theorem State.setRequests_fl (s : State) (m : Master) (rs : List Request) :
    (s.setRequests m rs).fl = s.fl := by
  cases m <;> rfl

@[simp] theorem State.setRequests_bm (s : State) (m : Master) (rs : List Request) :
    (s.setRequests m rs).bm = s.bm := by
  cases m <;> rfl

@[simp] theorem State.setRequests_bl (s : State) (m : Master) (rs : List Request) :
    (s.setRequests m rs).bl = s.bl := by
  cases m <;> rfl

@[simp] theorem State.setRequests_rom (s : State) (m : Master) (rs : List Request) :
    (s.setRequests m rs).rom = s.rom := by
  cases m <;> rfl

@[simp] theorem State.setRequests_sram (s : State) (m : Master) (rs : List Request) :
    (s.setRequests m rs).sram = s.sram := by
  cases m <;> rfl

@[simp] theorem State.setRequests_busData (s : State) (m : Master) (rs : List Request) :
    (s.setRequests m rs).busData = s.busData := by
  cases m <;> rfl

@[simp] theorem State.setRequests_linkOut (s : State) (m : Master) (rs : List Request) :
    (s.setRequests m rs).linkOut = s.linkOut := by
  cases m <;> rfl

@[simp] theorem State.setRequests_free (s : State) (m : Master) (rs : List Request) :
    (s.setRequests m rs).free = s.free := by
  cases m <;> rfl

@[simp] theorem State.setRequests_pending (s : State) (m : Master) (rs : List Request) :
    (s.setRequests m rs).pending = s.pending := by
  cases m <;> rfl

/-! ## reply -/

@[simp] theorem State.reply_voices (s : State) (m : Master) (r : Reply) :
    (s.reply m r).voices = s.voices := by
  cases m <;> rfl

@[simp] theorem State.reply_age (s : State) (m : Master) (r : Reply) :
    (s.reply m r).age = s.age := by
  cases m <;> rfl

@[simp] theorem State.reply_mx (s : State) (m : Master) (r : Reply) :
    (s.reply m r).mx = s.mx := by
  cases m <;> rfl

@[simp] theorem State.reply_channels (s : State) (m : Master) (r : Reply) :
    (s.reply m r).channels = s.channels := by
  cases m <;> rfl

@[simp] theorem State.reply_pma (s : State) (m : Master) (r : Reply) :
    (s.reply m r).pma = s.pma := by
  cases m <;> rfl

@[simp] theorem State.reply_rd (s : State) (m : Master) (r : Reply) :
    (s.reply m r).rd = s.rd := by
  cases m <;> rfl

@[simp] theorem State.reply_bd (s : State) (m : Master) (r : Reply) :
    (s.reply m r).bd = s.bd := by
  cases m <;> rfl

@[simp] theorem State.reply_gc (s : State) (m : Master) (r : Reply) :
    (s.reply m r).gc = s.gc := by
  cases m <;> rfl

@[simp] theorem State.reply_ss (s : State) (m : Master) (r : Reply) :
    (s.reply m r).ss = s.ss := by
  cases m <;> rfl

@[simp] theorem State.reply_fl (s : State) (m : Master) (r : Reply) :
    (s.reply m r).fl = s.fl := by
  cases m <;> rfl

@[simp] theorem State.reply_bm (s : State) (m : Master) (r : Reply) :
    (s.reply m r).bm = s.bm := by
  cases m <;> rfl

@[simp] theorem State.reply_bl (s : State) (m : Master) (r : Reply) :
    (s.reply m r).bl = s.bl := by
  cases m <;> rfl

@[simp] theorem State.reply_rom (s : State) (m : Master) (r : Reply) :
    (s.reply m r).rom = s.rom := by
  cases m <;> rfl

@[simp] theorem State.reply_sram (s : State) (m : Master) (r : Reply) :
    (s.reply m r).sram = s.sram := by
  cases m <;> rfl

@[simp] theorem State.reply_busData (s : State) (m : Master) (r : Reply) :
    (s.reply m r).busData = s.busData := by
  cases m <;> rfl

@[simp] theorem State.reply_linkOut (s : State) (m : Master) (r : Reply) :
    (s.reply m r).linkOut = s.linkOut := by
  cases m <;> rfl

@[simp] theorem State.reply_free (s : State) (m : Master) (r : Reply) :
    (s.reply m r).free = s.free := by
  cases m <;> rfl

@[simp] theorem State.reply_pending (s : State) (m : Master) (r : Reply) :
    (s.reply m r).pending = s.pending := by
  cases m <;> rfl

/-! ## answer -/

@[simp] theorem State.answer_voices (s : State) (a : Ask) (c : Code) (r : List Byte) :
    (s.answer a c r).voices = s.voices := by
  cases a; rename_i m _ _; cases m <;> rfl

@[simp] theorem State.answer_age (s : State) (a : Ask) (c : Code) (r : List Byte) :
    (s.answer a c r).age = s.age := by
  cases a; rename_i m _ _; cases m <;> rfl

@[simp] theorem State.answer_mx (s : State) (a : Ask) (c : Code) (r : List Byte) :
    (s.answer a c r).mx = s.mx := by
  cases a; rename_i m _ _; cases m <;> rfl

@[simp] theorem State.answer_channels (s : State) (a : Ask) (c : Code) (r : List Byte) :
    (s.answer a c r).channels = s.channels := by
  cases a; rename_i m _ _; cases m <;> rfl

@[simp] theorem State.answer_pma (s : State) (a : Ask) (c : Code) (r : List Byte) :
    (s.answer a c r).pma = s.pma := by
  cases a; rename_i m _ _; cases m <;> rfl

@[simp] theorem State.answer_rd (s : State) (a : Ask) (c : Code) (r : List Byte) :
    (s.answer a c r).rd = s.rd := by
  cases a; rename_i m _ _; cases m <;> rfl

@[simp] theorem State.answer_bd (s : State) (a : Ask) (c : Code) (r : List Byte) :
    (s.answer a c r).bd = s.bd := by
  cases a; rename_i m _ _; cases m <;> rfl

@[simp] theorem State.answer_gc (s : State) (a : Ask) (c : Code) (r : List Byte) :
    (s.answer a c r).gc = s.gc := by
  cases a; rename_i m _ _; cases m <;> rfl

@[simp] theorem State.answer_ss (s : State) (a : Ask) (c : Code) (r : List Byte) :
    (s.answer a c r).ss = s.ss := by
  cases a; rename_i m _ _; cases m <;> rfl

@[simp] theorem State.answer_fl (s : State) (a : Ask) (c : Code) (r : List Byte) :
    (s.answer a c r).fl = s.fl := by
  cases a; rename_i m _ _; cases m <;> rfl

@[simp] theorem State.answer_bm (s : State) (a : Ask) (c : Code) (r : List Byte) :
    (s.answer a c r).bm = s.bm := by
  cases a; rename_i m _ _; cases m <;> rfl

@[simp] theorem State.answer_bl (s : State) (a : Ask) (c : Code) (r : List Byte) :
    (s.answer a c r).bl = s.bl := by
  cases a; rename_i m _ _; cases m <;> rfl

@[simp] theorem State.answer_rom (s : State) (a : Ask) (c : Code) (r : List Byte) :
    (s.answer a c r).rom = s.rom := by
  cases a; rename_i m _ _; cases m <;> rfl

@[simp] theorem State.answer_sram (s : State) (a : Ask) (c : Code) (r : List Byte) :
    (s.answer a c r).sram = s.sram := by
  cases a; rename_i m _ _; cases m <;> rfl

@[simp] theorem State.answer_busData (s : State) (a : Ask) (c : Code) (r : List Byte) :
    (s.answer a c r).busData = s.busData := by
  cases a; rename_i m _ _; cases m <;> rfl

@[simp] theorem State.answer_linkOut (s : State) (a : Ask) (c : Code) (r : List Byte) :
    (s.answer a c r).linkOut = s.linkOut := by
  cases a; rename_i m _ _; cases m <;> rfl

@[simp] theorem State.answer_free (s : State) (a : Ask) (c : Code) (r : List Byte) :
    (s.answer a c r).free = s.free := by
  cases a; rename_i m _ _; cases m <;> rfl

@[simp] theorem State.answer_pending (s : State) (a : Ask) (c : Code) (r : List Byte) :
    (s.answer a c r).pending = s.pending := by
  cases a; rename_i m _ _; cases m <;> rfl

/-! ## refuse -/

@[simp] theorem State.refuse_voices (s : State) (a : Ask) (c : Code) :
    (s.refuse a c).voices = s.voices := by
  cases a; rename_i m _ _; cases m <;> rfl

@[simp] theorem State.refuse_age (s : State) (a : Ask) (c : Code) :
    (s.refuse a c).age = s.age := by
  cases a; rename_i m _ _; cases m <;> rfl

@[simp] theorem State.refuse_mx (s : State) (a : Ask) (c : Code) :
    (s.refuse a c).mx = s.mx := by
  cases a; rename_i m _ _; cases m <;> rfl

@[simp] theorem State.refuse_channels (s : State) (a : Ask) (c : Code) :
    (s.refuse a c).channels = s.channels := by
  cases a; rename_i m _ _; cases m <;> rfl

@[simp] theorem State.refuse_pma (s : State) (a : Ask) (c : Code) :
    (s.refuse a c).pma = s.pma := by
  cases a; rename_i m _ _; cases m <;> rfl

@[simp] theorem State.refuse_rd (s : State) (a : Ask) (c : Code) :
    (s.refuse a c).rd = s.rd := by
  cases a; rename_i m _ _; cases m <;> rfl

@[simp] theorem State.refuse_bd (s : State) (a : Ask) (c : Code) :
    (s.refuse a c).bd = s.bd := by
  cases a; rename_i m _ _; cases m <;> rfl

@[simp] theorem State.refuse_gc (s : State) (a : Ask) (c : Code) :
    (s.refuse a c).gc = s.gc := by
  cases a; rename_i m _ _; cases m <;> rfl

@[simp] theorem State.refuse_ss (s : State) (a : Ask) (c : Code) :
    (s.refuse a c).ss = s.ss := by
  cases a; rename_i m _ _; cases m <;> rfl

@[simp] theorem State.refuse_fl (s : State) (a : Ask) (c : Code) :
    (s.refuse a c).fl = s.fl := by
  cases a; rename_i m _ _; cases m <;> rfl

@[simp] theorem State.refuse_bm (s : State) (a : Ask) (c : Code) :
    (s.refuse a c).bm = s.bm := by
  cases a; rename_i m _ _; cases m <;> rfl

@[simp] theorem State.refuse_bl (s : State) (a : Ask) (c : Code) :
    (s.refuse a c).bl = s.bl := by
  cases a; rename_i m _ _; cases m <;> rfl

@[simp] theorem State.refuse_rom (s : State) (a : Ask) (c : Code) :
    (s.refuse a c).rom = s.rom := by
  cases a; rename_i m _ _; cases m <;> rfl

@[simp] theorem State.refuse_sram (s : State) (a : Ask) (c : Code) :
    (s.refuse a c).sram = s.sram := by
  cases a; rename_i m _ _; cases m <;> rfl

@[simp] theorem State.refuse_busData (s : State) (a : Ask) (c : Code) :
    (s.refuse a c).busData = s.busData := by
  cases a; rename_i m _ _; cases m <;> rfl

@[simp] theorem State.refuse_linkOut (s : State) (a : Ask) (c : Code) :
    (s.refuse a c).linkOut = s.linkOut := by
  cases a; rename_i m _ _; cases m <;> rfl

@[simp] theorem State.refuse_free (s : State) (a : Ask) (c : Code) :
    (s.refuse a c).free = s.free := by
  cases a; rename_i m _ _; cases m <;> rfl

@[simp] theorem State.refuse_pending (s : State) (a : Ask) (c : Code) :
    (s.refuse a c).pending = s.pending := by
  cases a; rename_i m _ _; cases m <;> rfl

/-! ## post -/

@[simp] theorem State.post_voices (s : State) (m : Master) (n : Notice) :
    (s.post m n).voices = s.voices := by
  cases m <;> rfl

@[simp] theorem State.post_age (s : State) (m : Master) (n : Notice) :
    (s.post m n).age = s.age := by
  cases m <;> rfl

@[simp] theorem State.post_mx (s : State) (m : Master) (n : Notice) :
    (s.post m n).mx = s.mx := by
  cases m <;> rfl

@[simp] theorem State.post_channels (s : State) (m : Master) (n : Notice) :
    (s.post m n).channels = s.channels := by
  cases m <;> rfl

@[simp] theorem State.post_pma (s : State) (m : Master) (n : Notice) :
    (s.post m n).pma = s.pma := by
  cases m <;> rfl

@[simp] theorem State.post_rd (s : State) (m : Master) (n : Notice) :
    (s.post m n).rd = s.rd := by
  cases m <;> rfl

@[simp] theorem State.post_bd (s : State) (m : Master) (n : Notice) :
    (s.post m n).bd = s.bd := by
  cases m <;> rfl

@[simp] theorem State.post_gc (s : State) (m : Master) (n : Notice) :
    (s.post m n).gc = s.gc := by
  cases m <;> rfl

@[simp] theorem State.post_ss (s : State) (m : Master) (n : Notice) :
    (s.post m n).ss = s.ss := by
  cases m <;> rfl

@[simp] theorem State.post_fl (s : State) (m : Master) (n : Notice) :
    (s.post m n).fl = s.fl := by
  cases m <;> rfl

@[simp] theorem State.post_bm (s : State) (m : Master) (n : Notice) :
    (s.post m n).bm = s.bm := by
  cases m <;> rfl

@[simp] theorem State.post_bl (s : State) (m : Master) (n : Notice) :
    (s.post m n).bl = s.bl := by
  cases m <;> rfl

@[simp] theorem State.post_rom (s : State) (m : Master) (n : Notice) :
    (s.post m n).rom = s.rom := by
  cases m <;> rfl

@[simp] theorem State.post_sram (s : State) (m : Master) (n : Notice) :
    (s.post m n).sram = s.sram := by
  cases m <;> rfl

@[simp] theorem State.post_busData (s : State) (m : Master) (n : Notice) :
    (s.post m n).busData = s.busData := by
  cases m <;> rfl

@[simp] theorem State.post_linkOut (s : State) (m : Master) (n : Notice) :
    (s.post m n).linkOut = s.linkOut := by
  cases m <;> rfl

@[simp] theorem State.post_free (s : State) (m : Master) (n : Notice) :
    (s.post m n).free = s.free := by
  cases m <;> rfl

@[simp] theorem State.post_pending (s : State) (m : Master) (n : Notice) :
    (s.post m n).pending = s.pending := by
  cases m <;> rfl

/-! ## postBoth -/

@[simp] theorem State.postBoth_voices (s : State) (n : Notice) :
    (s.postBoth n).voices = s.voices := rfl

@[simp] theorem State.postBoth_age (s : State) (n : Notice) :
    (s.postBoth n).age = s.age := rfl

@[simp] theorem State.postBoth_mx (s : State) (n : Notice) :
    (s.postBoth n).mx = s.mx := rfl

@[simp] theorem State.postBoth_channels (s : State) (n : Notice) :
    (s.postBoth n).channels = s.channels := rfl

@[simp] theorem State.postBoth_pma (s : State) (n : Notice) :
    (s.postBoth n).pma = s.pma := rfl

@[simp] theorem State.postBoth_rd (s : State) (n : Notice) :
    (s.postBoth n).rd = s.rd := rfl

@[simp] theorem State.postBoth_bd (s : State) (n : Notice) :
    (s.postBoth n).bd = s.bd := rfl

@[simp] theorem State.postBoth_gc (s : State) (n : Notice) :
    (s.postBoth n).gc = s.gc := rfl

@[simp] theorem State.postBoth_ss (s : State) (n : Notice) :
    (s.postBoth n).ss = s.ss := rfl

@[simp] theorem State.postBoth_fl (s : State) (n : Notice) :
    (s.postBoth n).fl = s.fl := rfl

@[simp] theorem State.postBoth_bm (s : State) (n : Notice) :
    (s.postBoth n).bm = s.bm := rfl

@[simp] theorem State.postBoth_bl (s : State) (n : Notice) :
    (s.postBoth n).bl = s.bl := rfl

@[simp] theorem State.postBoth_rom (s : State) (n : Notice) :
    (s.postBoth n).rom = s.rom := rfl

@[simp] theorem State.postBoth_sram (s : State) (n : Notice) :
    (s.postBoth n).sram = s.sram := rfl

@[simp] theorem State.postBoth_busData (s : State) (n : Notice) :
    (s.postBoth n).busData = s.busData := rfl

@[simp] theorem State.postBoth_linkOut (s : State) (n : Notice) :
    (s.postBoth n).linkOut = s.linkOut := rfl

@[simp] theorem State.postBoth_free (s : State) (n : Notice) :
    (s.postBoth n).free = s.free := rfl

@[simp] theorem State.postBoth_pending (s : State) (n : Notice) :
    (s.postBoth n).pending = s.pending := rfl

/-! ## busFree -/

@[simp] theorem State.busFree_voices (s : State) :
    s.busFree.voices = s.voices := rfl

@[simp] theorem State.busFree_age (s : State) :
    s.busFree.age = s.age := rfl

@[simp] theorem State.busFree_mx (s : State) :
    s.busFree.mx = s.mx := rfl

@[simp] theorem State.busFree_channels (s : State) :
    s.busFree.channels = s.channels := rfl

@[simp] theorem State.busFree_rd (s : State) :
    s.busFree.rd = s.rd := rfl

@[simp] theorem State.busFree_bd (s : State) :
    s.busFree.bd = s.bd := rfl

@[simp] theorem State.busFree_gc (s : State) :
    s.busFree.gc = s.gc := rfl

@[simp] theorem State.busFree_ss (s : State) :
    s.busFree.ss = s.ss := rfl

@[simp] theorem State.busFree_fl (s : State) :
    s.busFree.fl = s.fl := rfl

@[simp] theorem State.busFree_bm (s : State) :
    s.busFree.bm = s.bm := rfl

@[simp] theorem State.busFree_bl (s : State) :
    s.busFree.bl = s.bl := rfl

@[simp] theorem State.busFree_game (s : State) :
    s.busFree.game = s.game := rfl

@[simp] theorem State.busFree_sys (s : State) :
    s.busFree.sys = s.sys := rfl

@[simp] theorem State.busFree_rom (s : State) :
    s.busFree.rom = s.rom := rfl

@[simp] theorem State.busFree_sram (s : State) :
    s.busFree.sram = s.sram := rfl

@[simp] theorem State.busFree_busData (s : State) :
    s.busFree.busData = s.busData := rfl

@[simp] theorem State.busFree_linkOut (s : State) :
    s.busFree.linkOut = s.linkOut := rfl

@[simp] theorem State.busFree_free (s : State) :
    s.busFree.free = s.free := rfl

@[simp] theorem State.busFree_pending (s : State) :
    s.busFree.pending = s.pending := rfl

/-! ## pushOps -/

@[simp] theorem State.pushOps_voices (s : State) (ops : List StoreOp) :
    (s.pushOps ops).voices = s.voices := rfl

@[simp] theorem State.pushOps_age (s : State) (ops : List StoreOp) :
    (s.pushOps ops).age = s.age := rfl

@[simp] theorem State.pushOps_mx (s : State) (ops : List StoreOp) :
    (s.pushOps ops).mx = s.mx := rfl

@[simp] theorem State.pushOps_channels (s : State) (ops : List StoreOp) :
    (s.pushOps ops).channels = s.channels := rfl

@[simp] theorem State.pushOps_pma (s : State) (ops : List StoreOp) :
    (s.pushOps ops).pma = s.pma := rfl

@[simp] theorem State.pushOps_rd (s : State) (ops : List StoreOp) :
    (s.pushOps ops).rd = s.rd := rfl

@[simp] theorem State.pushOps_bd (s : State) (ops : List StoreOp) :
    (s.pushOps ops).bd = s.bd := rfl

@[simp] theorem State.pushOps_gc (s : State) (ops : List StoreOp) :
    (s.pushOps ops).gc = s.gc := rfl

@[simp] theorem State.pushOps_fl (s : State) (ops : List StoreOp) :
    (s.pushOps ops).fl = s.fl := rfl

@[simp] theorem State.pushOps_bm (s : State) (ops : List StoreOp) :
    (s.pushOps ops).bm = s.bm := rfl

@[simp] theorem State.pushOps_bl (s : State) (ops : List StoreOp) :
    (s.pushOps ops).bl = s.bl := rfl

@[simp] theorem State.pushOps_game (s : State) (ops : List StoreOp) :
    (s.pushOps ops).game = s.game := rfl

@[simp] theorem State.pushOps_sys (s : State) (ops : List StoreOp) :
    (s.pushOps ops).sys = s.sys := rfl

@[simp] theorem State.pushOps_rom (s : State) (ops : List StoreOp) :
    (s.pushOps ops).rom = s.rom := rfl

@[simp] theorem State.pushOps_sram (s : State) (ops : List StoreOp) :
    (s.pushOps ops).sram = s.sram := rfl

@[simp] theorem State.pushOps_busData (s : State) (ops : List StoreOp) :
    (s.pushOps ops).busData = s.busData := rfl

@[simp] theorem State.pushOps_linkOut (s : State) (ops : List StoreOp) :
    (s.pushOps ops).linkOut = s.linkOut := rfl

@[simp] theorem State.pushOps_free (s : State) (ops : List StoreOp) :
    (s.pushOps ops).free = s.free := rfl

@[simp] theorem State.pushOps_pending (s : State) (ops : List StoreOp) :
    (s.pushOps ops).pending = s.pending := rfl

/-! ## Vectors -/

@[simp] theorem putAt_same {α : Type} {n : Nat} (xs : Vector α n) (i : Fin n) (x : α) :
    (putAt xs i x)[i] = x := by
  simp [putAt]

theorem putAt_other {α : Type} {n : Nat} (xs : Vector α n) (i j : Fin n) (x : α) (h : i ≠ j) :
    (putAt xs i x)[j] = xs[j] := by
  have h' : i.val ≠ j.val := fun e => h (Fin.ext e)
  simp [putAt, h']

/-! ## Queues -/

@[simp] theorem Queues.place_requests (q : Queues) (r : Reply) : (q.place r).requests = q.requests := rfl

@[simp] theorem Queues.place_notices (q : Queues) (r : Reply) : (q.place r).notices = q.notices := rfl

@[simp] theorem Queues.post_requests (q : Queues) (n : Notice) : (q.post n).requests = q.requests := by
  simp only [Queues.post]; split <;> rfl

@[simp] theorem Queues.post_replies (q : Queues) (n : Notice) : (q.post n).replies = q.replies := by
  simp only [Queues.post]; split <;> rfl

@[simp] theorem Queues.post_reserved (q : Queues) (n : Notice) : (q.post n).reserved = q.reserved := by
  simp only [Queues.post]; split <;> rfl

end Sys2Proof.Machine
end

