-- ==== Sys2Proof/Laws/Ops.lean ====
section
/-! SUPPORT. What the shared operations can do: a request taken at once, a reply placed in a reserved slot,
notices, faults, an arbitration, the completion of a store operation. -/

namespace Sys2Proof.Machine

/-! ## The audio line -/

@[simp] theorem sampleBits_length (x : Int) : (sampleBits x).length = 16 := by simp [sampleBits]

/-- Bit i of a sample on the line is bit 15 - i of its two's complement (R36). -/
theorem sampleBits_get (x : Int) (i : Nat) (h : i < 16) :
    (sampleBits x)[i]? = some ((BitVec.ofInt 16 x).getLsbD (15 - i)) := by simp [sampleBits, h]

@[simp] theorem audioLine_length (s : State) : s.audioLine.length = 32 := by simp [State.audioLine]

/-- A line at 0 carries 32 zeros (R36). -/
theorem audioLine_silent {s : State} (hl : s.mx.outL = 0) (hr : s.mx.outR = 0) :
    s.audioLine = List.replicate 32 false := by rw [State.audioLine, hl, hr]; decide

/-! ## Replies -/

/-- A slot reserved and then answered is one more reply and nothing else. -/
theorem reserve_answer (s : State) (a : Ask) (c : Code) (r : List Byte) :
    (s.reserveSlot a.m).answer a c r = s.withReply a.m a.kind a.tag c r := by
  rcases a with ⟨m, t, k⟩
  cases m <;> simp [State.reserveSlot, State.answer, State.reply, State.withReply, Queues.place]

theorem reserve_refuse (s : State) (a : Ask) (c : Code) :
    (s.reserveSlot a.m).refuse a c = s.withReply a.m a.kind a.tag c [] := reserve_answer s a c []

/-- A request that its port takes at once goes to its job when the job runs (R160, R168). -/
theorem receive_takes {s : State} {m : Master} {tag : Byte} {q : Req}
    (h : s.takes m (requestFamily q)) (hs : requestSized q = true) :
    receive m tag q s = .next (runJob (askOf m tag q) q (s.reserveSlot m)) := by
  obtain ⟨⟨hp, hr, hf⟩, hq⟩ := h
  have : (s.reserveSlot m).familyReady (requestFamily q) = true := by
    rw [← hq]; cases requestFamily q <;> simp [State.familyReady, State.loaded]
  simp [receive, hp, State.arrive, hr, hf, hs, State.takeReq, this]

/-- A request that its port takes at once is refused with NOT_READY when its job does not run (R160). -/
theorem receive_notReady {s : State} {m : Master} {tag : Byte} {q : Req} (h : s.portFree m)
    (hn : s.familyReady (requestFamily q) = false) (hs : requestSized q = true) :
    receive m tag q s = .next (s.withReply m q.kind tag .notReady []) := by
  obtain ⟨hp, hr, hf⟩ := h
  have : (s.reserveSlot m).familyReady (requestFamily q) = false := by
    rw [← hn]; cases requestFamily q <;> simp [State.familyReady, State.loaded]
  have hx := reserve_refuse s (askOf m tag q) .notReady
  simp only [askOf] at hx
  simp [receive, hp, State.arrive, hr, hf, hs, State.takeReq, this, askOf, hx]

/-! ## Faults -/

/-- What the fault notices leave alone. -/
theorem faultNotice_frame (s : State) (b : FaultLog) (i : Fin 8) (m : Master) :
    ∃ g y, s.faultNotice b i m = { s with game := g, sys := y } := by
  simp only [State.faultNotice]
  split
  · cases m <;> exact ⟨_, _, rfl⟩
  · exact ⟨_, _, rfl⟩

/-- Taking a fault changes the log and may post notices; everything else stands (R144, R145). -/
theorem postFault_frame (s : State) (k : FaultKind) (c : Concerned) (x : Option Nat) :
    ∃ fl g y, s.postFault k c x = { s with fl := fl, game := g, sys := y } := by
  have recordOne : ∀ (fl : FaultLog) (i : Fin 8), ∃ fl' g y,
      s.recordFault fl i = { s with fl := fl', game := g, sys := y } := by
    intro fl i
    obtain ⟨g1, y1, h1⟩ := faultNotice_frame { s with fl := fl } s.fl i .game
    obtain ⟨g2, y2, h2⟩ := faultNotice_frame { s with fl := fl, game := g1, sys := y1 } s.fl i .system
    exact ⟨fl, g2, y2, by simp only [State.recordFault, h1, h2]⟩
  have writeOne : ∃ fl' g y, s.writeFault k c x = { s with fl := fl', game := g, sys := y } := by
    simp only [State.writeFault]
    split
    · exact ⟨_, _, _, rfl⟩
    · exact recordOne _ _
  simp only [State.postFault]
  split
  · exact ⟨_, _, _, rfl⟩
  · split
    · split
      · exact recordOne _ _
      · exact writeOne
    · exact writeOne

/-! ## The arbiter -/

/-- A grant decision changes the bus, the grantee's channel, the store's queue of operations and the boot
loader's count of bursts; everything else stands (R47 to R51). -/
theorem arbitrate_frame (s : State) :
    ∃ ch p ops n, s.arbitrate =
      { s with channels := ch, pma := p, ss := { s.ss with ops := ops },
               bl := { s.bl with granted := n } } := by
  simp only [State.arbitrate]
  split
  · cases s.grantChoice with
    | none => exact ⟨_, _, _, _, rfl⟩
    | some c =>
      cases c with
      | boot => exact ⟨_, _, _, _, rfl⟩
      | store =>
        simp only [State.grantStore]
        split
        · exact ⟨_, _, _, _, rfl⟩
        · exact ⟨_, _, _, _, rfl⟩
      | fetch v => exact ⟨_, _, _, _, rfl⟩
  · exact ⟨_, _, _, _, rfl⟩

/-- What the completion of a store operation answers: nothing is due, or the operation's bytes move and its
work goes on (R50). -/
theorem completeStore_next {pick : OpOwner → Bool} {act : StoreOp → List Byte → State → State}
    {s t : State} (h : completeStore pick act s = .next t) :
    (s.completing pick = none ∧ t = s) ∨
    ∃ op d, s.completing pick = some (op, d) ∧ op.addr + burstBytes ≤ sramSize ∧
      t = (if d then s.busFree.writeOut op
           else act op (s.readBurst op) (s.busFree.writeOut op)).arbitrate := by
  simp only [completeStore] at h
  split at h
  · next hc => cases h; exact .inl ⟨hc, rfl⟩
  · next op d hc =>
    split at h
    · next ha => cases h; exact .inr ⟨op, d, hc, ha, rfl⟩
    · cases h

/-- The store operation in flight that a completion finds. -/
theorem completing_some {s : State} {pick : OpOwner → Bool} {op : StoreOp} {d : Bool}
    (h : s.completing pick = some (op, d)) :
    s.powered = true ∧ s.pma.inFlight = some (.store op d) ∧ pick op.owner = true := by
  simp only [State.completing] at h
  split at h
  · next hp =>
    split at h
    · next hi =>
      split at h
      · next hk => cases h; exact ⟨hp, hi, hk⟩
      · cases h
    · cases h
  · cases h

/-- What a leg does that follows what its gates are asked (R57, R58): the guard of a gate turned off, and the gates
that are on after. -/
theorem follow_spec (l : LegState) (td : Nat) (high low : Bool) (hl : ¬(l.high = true ∧ l.low = true))
    (ask : ¬(high = true ∧ low = true)) :
    (l.follow td high low).guard = (if l.high = true ∧ high = false then ⟨td, some .high⟩
        else if l.low = true ∧ low = false then ⟨td, some .low⟩ else l.guard)
      ∧ ((l.follow td high low).high = true ↔
        high = true ∧ (l.high = true ∨ (l.follow td high low).guard.allows .high = true))
      ∧ ((l.follow td high low).low = true ↔
        low = true ∧ (l.low = true ∨ (l.follow td high low).guard.allows .low = true)) := by
  obtain ⟨a, b, g⟩ := l
  cases a <;> cases b <;> cases high <;> cases low <;>
    simp_all [LegState.follow, LegState.turnOff, LegState.turnOn, LegGuard.allows] <;>
    (try split) <;> simp_all

end Sys2Proof.Machine
end

