-- ==== Sys2Proof/Laws/Frames.lean ====
section
/-! SUPPORT. What the blocks' shared operations leave alone: for each, the fields of State that it may
change, and that every other field stands. -/

namespace Sys2Proof.Machine

/-! ## Notices -/

/-- A notice changes its master's port alone (R170). -/
theorem post_frame (s : State) (m : Master) (n : Notice) :
    ∃ g y, s.post m n = { s with game := g, sys := y } := by
  cases m <;> exact ⟨_, _, rfl⟩

/-- A reply changes its master's port alone (R168). -/
theorem answer_frame (s : State) (a : Ask) (c : Code) (r : List Byte) :
    ∃ g y, s.answer a c r = { s with game := g, sys := y } := by
  rcases a with ⟨m, t, k⟩
  cases m <;> exact ⟨_, _, rfl⟩

/-- MOTOR_STATE changes the two ports alone (R73). -/
theorem postMotor_frame (s : State) (x : MotorReason) :
    ∃ g y, s.postMotor x = { s with game := g, sys := y } := ⟨_, _, rfl⟩

/-! ## Voices -/

/-- The end of a voice changes the pool, its channel and its owner's port (R18, R46). -/
theorem endVoice_frame (s : State) (v : Fin 16) (r : EndReason) :
    ∃ vs ag ch g y, s.endVoice v r =
      { s with voices := vs, age := ag, channels := ch, game := g, sys := y } := by
  simp only [State.endVoice]
  split
  · obtain ⟨g, y, h⟩ := post_frame (s.freeVoice v r) s.voices[v].owner
      (.voiceEnded (mkHandle v s.voices[v].gen) r)
    exact ⟨_, _, _, g, y, h⟩
  · exact ⟨_, _, _, _, _, rfl⟩

/-- A starved voice's end changes the pool, its channel, the log and the ports (R54). -/
theorem starveOut_frame (s : State) (v : Fin 16) :
    ∃ vs ag ch fl g y, s.starveOut v =
      { s with voices := vs, age := ag, channels := ch, fl := fl, game := g, sys := y } := by
  obtain ⟨vs, ag, ch, g, y, h⟩ := endVoice_frame s v .starved
  obtain ⟨fl, g', y', h'⟩ := postFault_frame (s.endVoice v .starved) .voiceStarved
    (concernOf s.voices[v].owner) (some v.val)
  refine ⟨vs, ag, ch, fl, g', y', ?_⟩
  rw [State.starveOut, h', h]

/-- Allocating a voice changes the pool, its channel and its underrun mark (R10, R40; log entry 32). -/
theorem allocate_frame (s : State) (m : Master) (p : VoiceStart) (v : Fin 16) :
    s.allocate m p v = { s with
      voices := putAt s.voices v (s.voices[v].allocated m p)
      age := s.age ++ [v]
      mx := { s.mx with marks := putAt s.mx.marks v false }
      channels := putAt s.channels v (s.channels[v].setUp (s.voices[v].allocated m p)) } := rfl

/-! ## The rumble driver -/

/-- Counts of the cartridge clock change the driver and, by a stale expiry, the ports (R71). -/
theorem runClock_frame (s : State) (n : Nat) :
    ∃ r g y, s.runClock n = { s with rd := r, game := g, sys := y } := by
  simp only [State.runClock]
  split
  · exact ⟨_, _, _, rfl⟩
  · exact ⟨_, _, _, rfl⟩

/-- A latched cutoff changes the driver, the log and the ports (R65, R67). -/
theorem latchCutoff_frame (s : State) (x : MotorReason) :
    ∃ r fl g y, s.latchCutoff x = { s with rd := r, fl := fl, game := g, sys := y } := by
  obtain ⟨fl, g, y, h⟩ := postFault_frame
    (({ s with rd := s.rd.force s.bl.cfg.td .cutoff } : State).postMotor x) .motorCutoff .both none
  exact ⟨_, fl, g, y, h⟩

/-- A tick reaching the driver changes the driver, the log and the ports (R59, R63). -/
theorem rumbleTick_frame (s : State) :
    ∃ r fl g y, s.rumbleTick = { s with rd := r, fl := fl, game := g, sys := y } := by
  have derating : ∀ (u : State) (b : Bool), ∃ fl g y,
      u.postDerating b = { u with fl := fl, game := g, sys := y } := by
    intro u b
    simp only [State.postDerating]
    split
    · exact postFault_frame (u.postMotor .derateOn) .motorDerated .both none
    · split
      · exact ⟨_, _, _, rfl⟩
      · exact ⟨_, _, _, rfl⟩
  have told : ∃ r g y, (if s.rd.stale then
      ({ s with rd := { s.rd with staleTimer := staleCounts, stale := false } } : State).postMotor .staleOff
      else { s with rd := { s.rd with staleTimer := staleCounts, stale := false } })
      = { s with rd := r, game := g, sys := y } := by
    split
    · exact ⟨_, _, _, rfl⟩
    · exact ⟨_, _, _, rfl⟩
  obtain ⟨r, g, y, h⟩ := told
  simp only [State.rumbleTick]
  rw [h]
  split
  · obtain ⟨fl, g', y', h'⟩ := derating
      { s with rd := r.tick s.bl.cfg s.mx.motorMix, game := g, sys := y } r.derated
    exact ⟨_, fl, g', y', h'⟩
  · exact ⟨_, _, _, _, rfl⟩

/-! ## The game clock -/

/-- The day evaluation changes DHW and the game port (R82). -/
theorem evaluateDay_frame (s : State) :
    ∃ g y, s.evaluateDay =
      { s with bd := { s.bd with dhw := max s.bd.dhw s.calcDay }, game := g, sys := y } := by
  simp only [State.evaluateDay]
  split
  · next h =>
    have hm : max s.bd.dhw s.calcDay = s.calcDay := by omega
    rw [hm]
    split
    · exact ⟨_, _, rfl⟩
    · exact ⟨_, _, rfl⟩
  · next h =>
    have hm : max s.bd.dhw s.calcDay = s.bd.dhw := by omega
    rw [hm]
    exact ⟨_, _, rfl⟩

/-- A battery check changes the monitor, the log and the ports (R153). -/
theorem checkBattery_frame (s : State) (weak : Bool) :
    ∃ bm fl g y, s.checkBattery weak = { s with bm := bm, fl := fl, game := g, sys := y } := by
  simp only [State.checkBattery]
  split
  · obtain ⟨fl, g, y, h⟩ := postFault_frame
      { s with bm := { s.bm with weak := weak, weakLogged := true } } .batteryWeak .both none
    exact ⟨_, fl, g, y, h⟩
  · exact ⟨_, _, _, _, rfl⟩

/-- A second boundary changes the battery domain, the monitor, the log and the ports (R76, R82, R153). -/
theorem secondBoundary_frame (s : State) (weak : Bool) :
    ∃ bd bm fl g y, s.secondBoundary weak =
      { s with bd := bd, bm := bm, fl := fl, game := g, sys := y } := by
  have minute : ∀ u : State, ∃ bm fl g y, u.minuteCheck weak =
      { u with bm := bm, fl := fl, game := g, sys := y } := by
    intro u
    simp only [State.minuteCheck]
    split
    · exact checkBattery_frame u weak
    · exact checkBattery_frame u weak
    · exact ⟨_, _, _, _, rfl⟩
  have day : ∀ u : State, ∃ bd g y, (if u.gc.dayEval then u.evaluateDay else u) =
      { u with bd := bd, game := g, sys := y } := by
    intro u
    split
    · obtain ⟨g, y, h⟩ := evaluateDay_frame u
      exact ⟨_, g, y, h⟩
    · exact ⟨_, _, _, rfl⟩
  have checked : ∃ bm fl g y,
      (if ({ s with bd := s.bd.nextSecond } : State).bd.minute = 0 then
        ({ s with bd := s.bd.nextSecond } : State).minuteCheck weak
      else { s with bd := s.bd.nextSecond }) =
      { s with bd := s.bd.nextSecond, bm := bm, fl := fl, game := g, sys := y } := by
    split
    · obtain ⟨bm, fl, g, y, h⟩ := minute { s with bd := s.bd.nextSecond }
      exact ⟨bm, fl, g, y, h⟩
    · exact ⟨_, _, _, _, rfl⟩
  simp only [State.secondBoundary]
  split
  · obtain ⟨bm, fl, g, y, h⟩ := checked
    rw [h]
    obtain ⟨bd, g', y', h'⟩ := day { s with bd := s.bd.nextSecond, bm := bm, fl := fl, game := g, sys := y }
    exact ⟨bd, bm, fl, g', y', h'⟩
  · exact ⟨_, _, _, _, _, rfl⟩

/-! ## The store -/

/-- A slot marked DAMAGED changes the store, the log and the ports (R134). -/
theorem mismatch_frame (s : State) (slot : Fin 32) (serial : Nat) :
    ∃ ss fl g y, s.mismatch slot serial = { s with ss := ss, fl := fl, game := g, sys := y } := by
  simp only [State.mismatch]
  split
  · obtain ⟨fl, g, y, h⟩ := postFault_frame
      { s with ss := s.ss.setSlot slot s.ss.dir.slots[slot].mark } .slotDamaged
      (slotConcern s.bl.cfg.ng slot) (some slot.val)
    exact ⟨_, fl, g, y, h⟩
  · exact ⟨_, _, _, _, rfl⟩

/-- A page write's beginning changes the store alone (R98). -/
theorem beginPage_frame (s : State) (p : PageId) (d : Directory) (e : Option Entry) (l : List Nat) :
    ∃ ss, s.beginPage p d e l = { s with ss := ss } := ⟨_, rfl⟩

/-- The turns of the commit queue change the store and, by their replies, the ports (R120, R121). -/
theorem turns_frame (es : List Entry) (s : State) :
    ∃ ss g y, State.turns es s = { s with ss := ss, game := g, sys := y } := by
  induction es generalizing s with
  | nil => exact ⟨_, _, _, rfl⟩
  | cons e rest ih =>
    simp only [State.turns]
    split
    · exact ⟨_, _, _, rfl⟩
    · split
      · next hn =>
        obtain ⟨g, y, h⟩ := answer_frame { s with ss := { s.ss with commits := rest } } e.ask .ok
          (e.kind.fields s.ss.dir.slots[e.slot] s.ss.dir.gen)
        rw [h]
        obtain ⟨ss, g', y', h'⟩ := ih { s with ss := { s.ss with commits := rest }, game := g, sys := y }
        exact ⟨ss, g', y', h'⟩
      · exact ⟨_, _, _, rfl⟩

/-- An appended entry changes the store and, by a reply, the ports (R120). -/
theorem appendEntry_frame (s : State) (e : Entry) :
    ∃ ss g y, s.appendEntry e = { s with ss := ss, game := g, sys := y } := by
  obtain ⟨ss, g, y, h⟩ := turns_frame (s.ss.commits ++ [e])
    { s with ss := { s.ss with commits := s.ss.commits ++ [e] } }
  exact ⟨ss, g, y, h⟩

/-- The NO_TRANSACTION answers change the ports alone. -/
theorem answerNone_frame (tags : List Byte) (m : Master) (k : Byte) (s : State) :
    ∃ g y, s.answerNone m k tags = { s with game := g, sys := y } := by
  induction tags generalizing s with
  | nil => exact ⟨_, _, rfl⟩
  | cons t rest ih =>
    obtain ⟨g, y, h⟩ := answer_frame s { m := m, tag := t, kind := k } .noTransaction []
    obtain ⟨g', y', h'⟩ := ih (s.refuse { m := m, tag := t, kind := k } .noTransaction)
    refine ⟨g', y', ?_⟩
    have : s.answerNone m k (t :: rest) =
      (s.refuse { m := m, tag := t, kind := k } .noTransaction).answerNone m k rest := rfl
    rw [this, h', State.refuse, h]

/-- The end of a transaction changes the store, the bus and the ports (R118, R125). -/
theorem endTxn_frame (s : State) (m : Master) :
    ∃ ss p g y, s.endTxn m = { s with ss := ss, pma := p, game := g, sys := y } := by
  simp only [State.endTxn]
  obtain ⟨g, y, h⟩ := answerNone_frame (s.unfinishedData m) m (Req.kind (.saveData [])) s
  rw [h]
  exact ⟨_, _, _, _, rfl⟩

/-- A closed cursor changes the store, the bus and the ports (R128, R130). -/
theorem closeCursor_frame (s : State) (m : Master) :
    ∃ ss p g y, s.closeCursor m = { s with ss := ss, pma := p, game := g, sys := y } := by
  simp only [State.closeCursor]
  split
  · exact ⟨_, _, _, _, rfl⟩
  · next c hc =>
    obtain ⟨g, y, h⟩ := answerNone_frame (c.loads.map (·.tag)) m (Req.kind (.loadData 0)) s
    rw [h]
    exact ⟨_, _, _, _, rfl⟩

/-- Overtaking changes the store, the bus and the ports (R125). -/
theorem overtake_frame (s : State) (m : Master) (slot : Fin 32) (x : LostReason) :
    ∃ ss p g y, s.overtake m slot x = { s with ss := ss, pma := p, game := g, sys := y } := by
  simp only [State.overtake]
  split
  · obtain ⟨ss, p, g, y, h⟩ := endTxn_frame s m.other
    obtain ⟨g', y', h'⟩ := post_frame (s.endTxn m.other) m.other (.txnLost slot x)
    exact ⟨ss, p, g', y', by rw [h', h]⟩
  · exact ⟨_, _, _, _, rfl⟩

/-- A verify that goes on changes the store and, by its replies, the ports (R132, R133). -/
theorem advanceVerify_frame (n : Nat) (s : State) :
    ∃ ss g y, State.advanceVerify n s = { s with ss := ss, game := g, sys := y } := by
  have told : ∀ (l : List (Master × Byte)) (r : List Byte) (u : State), ∃ g y,
      l.foldl (fun (w : State) q => w.answer { m := q.1, tag := q.2, kind := Req.kind (.storeVerify 0 0) }
        .ok r) u = { u with game := g, sys := y } := by
    intro l r
    induction l with
    | nil => intro u; exact ⟨_, _, rfl⟩
    | cons q rest ih =>
      intro u
      obtain ⟨g, y, h⟩ := answer_frame u { m := q.1, tag := q.2, kind := Req.kind (.storeVerify 0 0) } .ok r
      obtain ⟨g', y', h'⟩ := ih { u with game := g, sys := y }
      exact ⟨g', y', by rw [List.foldl_cons, h, h']⟩
  induction n generalizing s with
  | zero => exact ⟨_, _, _, rfl⟩
  | succ n ih =>
    simp only [State.advanceVerify]
    split
    · exact ⟨_, _, _, rfl⟩
    · next v hv =>
      split
      · exact ⟨_, _, _, rfl⟩
      · obtain ⟨g, y, h⟩ := told v.requesters v.fields (s.setStore { s.ss with verify := none })
        have h' : (s.setStore { s.ss with verify := none }).replyVerify v =
          { s with ss := { s.ss with verify := none }, game := g, sys := y } := h
        rw [h']
        split
        · exact ⟨_, _, _, rfl⟩
        · next p hp =>
          obtain ⟨ss, g', y', h''⟩ := ih (({ s with ss := { s.ss with verify := none }, game := g, sys := y } :
            State).setStore { s.ss with
              verify := some (newVerify s.bl.cfg.ng p.scope p.requesters), pendingVerify := none })
          exact ⟨ss, g', y', h''⟩

/-! ## The link -/

/-- A byte on the link that does not end the frame changes the count of bytes sent alone (R166). -/
theorem sendByte_within (s : State) (h : s.sys.sent + 1 < s.oldestFrame.length) :
    s.sendByte = { s with sys := { s.sys with sent := s.sys.sent + 1 } } := if_pos h

/-- The byte that ends the frame does what SEND_FRAME does (R166; log entry 17). -/
theorem sendByte_last (s : State) (h : s.oldestFrame.length ≤ s.sys.sent + 1) :
    s.sendByte = s.frameSent := if_neg (Nat.not_lt.mpr h)

/-- With nothing waiting a byte comes in and none goes out (10.3). -/
theorem clockByte_quiet (s : State) (b : Byte) (h : s.systemAttention = false) :
    s.clockByte b = s.linkByte b := by simp [State.clockByte, h]

/-- Where a reply or notice waits a byte of its frame goes out with the byte that comes in (R166). -/
theorem clockByte_sends (s : State) (b : Byte) (h : s.systemAttention = true) :
    s.clockByte b = s.sendByte.linkByte b := by simp [State.clockByte, h]

/-- Within a frame going out, a clocked byte moves that frame by one and comes in as ever (R166, 10.3). -/
theorem clockByte_outlasts (s : State) (b : Byte) (h : s.frameOutlasts 1) :
    s.clockByte b = (s.linkMoved 1).linkByte b := by
  cases ha : s.systemAttention with
  | false => simp [State.clockByte, State.linkMoved, ha]
  | true => simp [State.clockByte, State.linkMoved, ha, sendByte_within s (h ha)]

/-- What goes out leaves what comes in alone (10.3). -/
@[simp] theorem linkMoved_rx (s : State) (k : Nat) : (s.linkMoved k).sys.rx = s.sys.rx := by
  unfold State.linkMoved; split <;> rfl

/-- Bytes that stay inside a frame coming in, while none going out ends, join it one after another and move what goes
out (R166, 10.3). -/
theorem clockBytes_within (ready : Bool) : ∀ (bs pre : List Byte) (s : State),
    s.sys.rx = .frame ready pre → s.frameOutlasts bs.length →
    (∀ k ≤ bs.length, 0 < k → (pre ++ bs.take k).length < frameEnd (pre ++ bs.take k)) →
    bs.foldl State.clockByte s = { s.linkMoved bs.length with
      sys := { (s.linkMoved bs.length).sys with rx := .frame ready (pre ++ bs) } } := by
  intro bs
  induction bs with
  | nil => intro pre s h _ _; cases hs : s.systemAttention <;> simp [State.linkMoved, hs, ← h]
  | cons b bs ih =>
    intro pre s hr ho hk
    have ho1 : s.frameOutlasts 1 := fun h => by have := ho h; simp at this; omega
    have h1 := hk 1 (by simp) (by simp)
    have e : (s.linkMoved 1).linkByte b = { s.linkMoved 1 with
        sys := { (s.linkMoved 1).sys with rx := .frame ready (pre ++ [b]) } } := by
      simp only [State.linkByte, linkMoved_rx, hr]
      exact if_neg (by simpa using h1)
    rw [List.foldl_cons, clockByte_outlasts s b ho1, e, ih (pre ++ [b]) _ rfl]
    · cases ha : s.systemAttention
      · have hb : State.systemAttention { s with sys := { s.sys with rx := .frame ready (pre ++ [b]) } } = false := ha
        simp [State.linkMoved, ha, hb]
      · have hb : State.systemAttention { s with sys := { s.sys with rx := .frame ready (pre ++ [b]), sent := s.sys.sent + 1 } } =
            true := ha
        simp [State.linkMoved, ha, hb, Nat.add_assoc, Nat.add_comm]
    · intro h
      cases ha : s.systemAttention
      · simp only [State.linkMoved, ha] at h
        exact absurd (show s.systemAttention = true from h) (by simp [ha])
      · have := ho ha
        simp only [State.linkMoved, ha, if_true]
        show s.sys.sent + 1 + bs.length < s.oldestFrame.length
        simp at this; omega
    · intro k hk' _
      have := hk (k + 1) (by simp; omega) (by omega)
      simpa using this

/-- In HELD the cartridge clock does not reach the driver (R161; log entry 34). -/
theorem clockRuns_held (s : State) (h : s.bl.phase = .held) : s.clockRuns = false := by
  simp [State.clockRuns, h]

end Sys2Proof.Machine
end

