-- ==== Sys2Proof/Laws/Memory.lean ====
section
/-! SUPPORT. The memories: a read after a write, and the canonical form, kept by every memory operation. -/

namespace Sys2Proof.Machine

/-- Every cell of a memory in canonical form lies above a bound. -/
theorem Memory.write_above {d : Byte} {m : Memory} {a b : Nat} {v : Byte} (hb : b < a)
    (h : ∀ c ∈ m, b < c.1) : ∀ c ∈ Memory.write d m a v, b < c.1 := by
  induction m with
  | nil =>
    intro c hc
    simp only [Memory.write] at hc
    split at hc
    · simp at hc
    · simp at hc; subst hc; exact hb
  | cons x rest ih =>
    obtain ⟨e, w⟩ := x
    have hr : ∀ c ∈ rest, b < c.1 := fun c hc => h c (List.mem_cons_of_mem _ hc)
    have he : b < e := h (e, w) (by simp)
    intro c hc
    simp only [Memory.write] at hc
    split at hc
    · split at hc
      · exact h c hc
      · rcases List.mem_cons.mp hc with rfl | hc
        · exact hb
        · exact h c hc
    · split at hc
      · split at hc
        · exact hr c hc
        · rcases List.mem_cons.mp hc with rfl | hc
          · exact hb
          · exact hr c hc
      · rcases List.mem_cons.mp hc with rfl | hc
        · exact he
        · exact ih hr c hc

/-- A write keeps the canonical form. -/
theorem Memory.write_wf {d : Byte} {m : Memory} (a : Nat) (v : Byte) (h : Memory.wf d m) :
    Memory.wf d (Memory.write d m a v) := by
  induction m with
  | nil =>
    simp only [Memory.write]
    split
    · exact h
    · next hv => exact ⟨by simp, by simpa using hv⟩
  | cons x rest ih =>
    obtain ⟨e, w⟩ := x
    obtain ⟨hp, hd⟩ := h
    rw [List.pairwise_cons] at hp
    have hrest : Memory.wf d rest := ⟨hp.2, fun c hc => hd c (List.mem_cons_of_mem _ hc)⟩
    simp only [Memory.write]
    split
    · next hlt =>
      split
      · exact ⟨List.pairwise_cons.mpr hp, hd⟩
      · next hv =>
        refine ⟨List.pairwise_cons.mpr ⟨?_, List.pairwise_cons.mpr hp⟩, ?_⟩
        · intro c hc
          rcases List.mem_cons.mp hc with rfl | hc
          · exact hlt
          · exact Nat.lt_trans hlt (hp.1 c hc)
        · intro c hc
          rcases List.mem_cons.mp hc with rfl | hc
          · exact hv
          · exact hd c hc
    · next hge =>
      split
      · next he =>
        subst he
        split
        · exact hrest
        · next hv =>
          refine ⟨List.pairwise_cons.mpr ⟨hp.1, hp.2⟩, ?_⟩
          intro c hc
          rcases List.mem_cons.mp hc with rfl | hc
          · exact hv
          · exact hrest.2 c hc
      · next hne =>
        have := ih hrest
        refine ⟨List.pairwise_cons.mpr ⟨?_, this.1⟩, ?_⟩
        · exact Memory.write_above (by omega) hp.1
        · intro c hc
          rcases List.mem_cons.mp hc with rfl | hc
          · exact hd _ (by simp)
          · exact this.2 c hc

/-- A write of several bytes keeps the canonical form. -/
theorem Memory.writeBytes_wf {d : Byte} (bytes : List Byte) :
    ∀ (m : Memory) (a : Nat), Memory.wf d m → Memory.wf d (Memory.writeBytes d m a bytes) := by
  induction bytes with
  | nil => intro m a h; exact h
  | cons b rest ih => intro m a h; exact ih _ _ (Memory.write_wf a b h)

/-- The empty memory is in canonical form. -/
theorem Memory.nil_wf (d : Byte) : Memory.wf d [] := ⟨.nil, by simp⟩

/-- Below every listed address a memory reads as blank. -/
theorem Memory.read_below {d : Byte} {m : Memory} {a : Nat} (h : ∀ c ∈ m, a < c.1) :
    Memory.read d m a = d := by
  induction m with
  | nil => rfl
  | cons x rest ih =>
    obtain ⟨e, w⟩ := x
    have he : a < e := h (e, w) (by simp)
    simp only [Memory.read, if_neg (Nat.ne_of_gt he)]
    exact ih fun c hc => h c (List.mem_cons_of_mem _ hc)

/-- A read after a write gives the value written at its address, and elsewhere what was there. -/
theorem Memory.read_write {d : Byte} {m : Memory} (a b : Nat) (v : Byte) (h : Memory.wf d m) :
    Memory.read d (Memory.write d m a v) b = if b = a then v else Memory.read d m b := by
  induction m with
  | nil =>
    simp only [Memory.write]
    split
    · next hv => subst hv; simp [Memory.read]
    · simp only [Memory.read]
      by_cases hba : b = a
      · simp [hba]
      · simp [hba, Ne.symm hba]
  | cons x rest ih =>
    obtain ⟨e, w⟩ := x
    obtain ⟨hp, hd⟩ := h
    rw [List.pairwise_cons] at hp
    have hrest : Memory.wf d rest := ⟨hp.2, fun c hc => hd c (List.mem_cons_of_mem _ hc)⟩
    simp only [Memory.write]
    split
    · next hlt =>
      split
      · next hv =>
        by_cases hba : b = a
        · subst hba
          rw [Memory.read_below]
          · simp [hv]
          · intro c hc
            rcases List.mem_cons.mp hc with rfl | hc
            · exact hlt
            · exact Nat.lt_trans hlt (hp.1 c hc)
        · simp [hba]
      · by_cases hba : b = a
        · simp [Memory.read, hba]
        · simp [Memory.read, hba, Ne.symm hba]
    · next hge =>
      split
      · next he =>
        subst he
        split
        · next hv =>
          by_cases hba : b = a
          · subst hba
            rw [Memory.read_below hp.1]
            simp [hv]
          · simp [Memory.read, hba, Ne.symm hba]
        · by_cases hba : b = a
          · simp [Memory.read, hba]
          · simp [Memory.read, hba, Ne.symm hba]
      · next hne =>
        by_cases heb : e = b
        · subst heb
          simp [Memory.read, Ne.symm hne]
        · simp only [Memory.read, if_neg heb]
          exact ih hrest

end Sys2Proof.Machine
end

