-- ==== Sys2Proof/Laws/PerInstr.lean ====
section
/-! SUPPORT. A family of laws about the commands as syntax: the kind that a request command carries on the
wire is never 0 and is no notice's (R165, R174). -/

namespace Sys2Proof.Laws.WireKind

/-- Whatever request a command carries, its kind lies below the notices' kinds and is not 0. -/
def Statement (i : Instr) : Prop :=
  ∀ m tag q, Machine.requestCommand m tag q = some i → 1 ≤ q.kind.toNat ∧ q.kind.toNat ≤ 0x50

/-- The kinds of all requests lie in that range. -/
theorem kind_range (q : Req) : 1 ≤ q.kind.toNat ∧ q.kind.toNat ≤ 0x50 := by
  cases q <;> simp [Req.kind]

theorem voiceStart (m : Master) (tag : Byte) (p : VoiceStart) :
    Statement (.voiceStart m tag p) := fun _ _ q _ => kind_range q

theorem voiceSet (m : Master) (tag : Byte) (p : VoiceSet) :
    Statement (.voiceSet m tag p) := fun _ _ q _ => kind_range q

theorem voiceRelease (m : Master) (tag : Byte) (handle : Byte) :
    Statement (.voiceRelease m tag handle) := fun _ _ q _ => kind_range q

theorem voiceStop (m : Master) (tag : Byte) (handle : Byte) :
    Statement (.voiceStop m tag handle) := fun _ _ q _ => kind_range q

theorem voiceQuery (m : Master) (tag : Byte) (handle : Byte) :
    Statement (.voiceQuery m tag handle) := fun _ _ q _ => kind_range q

theorem mixLevel (m : Master) (tag : Byte) (level : Option Word) (clear : Bool) :
    Statement (.mixLevel m tag level clear) := fun _ _ q _ => kind_range q

theorem duckSet (m : Master) (tag : Byte) (factor : Word) :
    Statement (.duckSet m tag factor) := fun _ _ q _ => kind_range q

theorem rumbleEnable (m : Master) (tag : Byte) (on : Bool) :
    Statement (.rumbleEnable m tag on) := fun _ _ q _ => kind_range q

theorem rumbleStrength (m : Master) (tag : Byte) (strength : Word) :
    Statement (.rumbleStrength m tag strength) := fun _ _ q _ => kind_range q

theorem rumbleResume (m : Master) (tag : Byte) :
    Statement (.rumbleResume m tag) := fun _ _ q _ => kind_range q

theorem rumbleStatus (m : Master) (tag : Byte) :
    Statement (.rumbleStatus m tag) := fun _ _ q _ => kind_range q

theorem clockRead (m : Master) (tag : Byte) :
    Statement (.clockRead m tag) := fun _ _ q _ => kind_range q

theorem clockSet (m : Master) (tag : Byte) (fields : ClockFields) :
    Statement (.clockSet m tag fields) := fun _ _ q _ => kind_range q

theorem zoneSet (m : Master) (tag : Byte) (zone : Byte) :
    Statement (.zoneSet m tag zone) := fun _ _ q _ => kind_range q

theorem trimSet (m : Master) (tag : Byte) (trim : Word) :
    Statement (.trimSet m tag trim) := fun _ _ q _ => kind_range q

theorem rateCheck (m : Master) (tag : Byte) (edges : Word) :
    Statement (.rateCheck m tag edges) := fun _ _ q _ => kind_range q

theorem storeInfo (m : Master) (tag : Byte) :
    Statement (.storeInfo m tag) := fun _ _ q _ => kind_range q

theorem slotInfo (m : Master) (tag : Byte) (slot : Byte) :
    Statement (.slotInfo m tag slot) := fun _ _ q _ => kind_range q

theorem saveOpen (m : Master) (tag : Byte) (slot : Byte) (length : Word) :
    Statement (.saveOpen m tag slot length) := fun _ _ q _ => kind_range q

theorem saveData (m : Master) (tag : Byte) (bytes : List Byte) :
    Statement (.saveData m tag bytes) := fun _ _ q _ => kind_range q

theorem saveCommit (m : Master) (tag : Byte) :
    Statement (.saveCommit m tag) := fun _ _ q _ => kind_range q

theorem saveAbort (m : Master) (tag : Byte) :
    Statement (.saveAbort m tag) := fun _ _ q _ => kind_range q

theorem loadOpen (m : Master) (tag : Byte) (slot : Byte) :
    Statement (.loadOpen m tag slot) := fun _ _ q _ => kind_range q

theorem loadData (m : Master) (tag : Byte) (count : Byte) :
    Statement (.loadData m tag count) := fun _ _ q _ => kind_range q

theorem loadClose (m : Master) (tag : Byte) :
    Statement (.loadClose m tag) := fun _ _ q _ => kind_range q

theorem slotErase (m : Master) (tag : Byte) (slot : Byte) :
    Statement (.slotErase m tag slot) := fun _ _ q _ => kind_range q

theorem slotCopy (m : Master) (tag : Byte) (source destination : Byte) :
    Statement (.slotCopy m tag source destination) := fun _ _ q _ => kind_range q

theorem slotLock (m : Master) (tag : Byte) (slot : Byte) (on : Bool) :
    Statement (.slotLock m tag slot on) := fun _ _ q _ => kind_range q

theorem storeVerify (m : Master) (tag : Byte) (scope slot : Byte) :
    Statement (.storeVerify m tag scope slot) := fun _ _ q _ => kind_range q

theorem faultRead (m : Master) (tag : Byte) (index : Byte) :
    Statement (.faultRead m tag index) := fun _ _ q _ => kind_range q

theorem faultClearIndex (m : Master) (tag : Byte) (index : Byte) :
    Statement (.faultClearIndex m tag index) := fun _ _ q _ => kind_range q

theorem faultClearAllMine (m : Master) (tag : Byte) :
    Statement (.faultClearAllMine m tag) := fun _ _ q _ => kind_range q

theorem faultClearOverflow (m : Master) (tag : Byte) :
    Statement (.faultClearOverflow m tag) := fun _ _ q _ => kind_range q

theorem partInfo (m : Master) (tag : Byte) (clearCounts : Bool) :
    Statement (.partInfo m tag clearCounts) := fun _ _ q _ => kind_range q

theorem badRequest (m : Master) (r : Request) :
    Statement (.badRequest m r) := fun _ _ q _ => kind_range q

theorem reqWrite (w : Word) :
    Statement (.reqWrite w) := fun _ _ q _ => kind_range q

theorem rspRead :
    Statement (.rspRead) := fun _ _ q _ => kind_range q

theorem noteRead :
    Statement (.noteRead) := fun _ _ q _ => kind_range q

theorem portStatusRead :
    Statement (.portStatusRead) := fun _ _ q _ => kind_range q

theorem discardAssembly :
    Statement (.discardAssembly) := fun _ _ q _ => kind_range q

theorem clearOverflow :
    Statement (.clearOverflow) := fun _ _ q _ => kind_range q

theorem writeAttentionEnable (on : Bool) :
    Statement (.writeAttentionEnable on) := fun _ _ q _ => kind_range q

theorem registerWriteNoEffect (loc : ReadOnlyLoc) (w : Word) :
    Statement (.registerWriteNoEffect loc w) := fun _ _ q _ => kind_range q

theorem requestFrame (bytes : List Byte) :
    Statement (.requestFrame bytes) := fun _ _ q _ => kind_range q

theorem sendFrame :
    Statement (.sendFrame) := fun _ _ q _ => kind_range q

theorem audioFrame :
    Statement (.audioFrame) := fun _ _ q _ => kind_range q

theorem mixerTick :
    Statement (.mixerTick) := fun _ _ q _ => kind_range q

theorem voiceStarve (v : Nat) :
    Statement (.voiceStarve v) := fun _ _ q _ => kind_range q

theorem brakeEnd :
    Statement (.brakeEnd) := fun _ _ q _ => kind_range q

theorem carrierPeriodStart :
    Statement (.carrierPeriodStart) := fun _ _ q _ => kind_range q

theorem pwmPulseEnd :
    Statement (.pwmPulseEnd) := fun _ _ q _ => kind_range q

theorem deadTimeExpiry (leg : Leg) :
    Statement (.deadTimeExpiry leg) := fun _ _ q _ => kind_range q

theorem staleTimerExpiry :
    Statement (.staleTimerExpiry) := fun _ _ q _ => kind_range q

theorem cutoffInputActive :
    Statement (.cutoffInputActive) := fun _ _ q _ => kind_range q

theorem cutoffInputInactive :
    Statement (.cutoffInputInactive) := fun _ _ q _ => kind_range q

theorem secondBoundary (weak : Bool) :
    Statement (.secondBoundary weak) := fun _ _ q _ => kind_range q

theorem minuteBoundary (weak : Bool) :
    Statement (.minuteBoundary weak) := fun _ _ q _ => kind_range q

theorem frameSyncEdge :
    Statement (.frameSyncEdge) := fun _ _ q _ => kind_range q

theorem rateCheckTimeout :
    Statement (.rateCheckTimeout) := fun _ _ q _ => kind_range q

theorem fetchBurstComplete :
    Statement (.fetchBurstComplete) := fun _ _ q _ => kind_range q

theorem configBurstComplete :
    Statement (.configBurstComplete) := fun _ _ q _ => kind_range q

theorem mountReadComplete :
    Statement (.mountReadComplete) := fun _ _ q _ => kind_range q

theorem dataWriteComplete :
    Statement (.dataWriteComplete) := fun _ _ q _ => kind_range q

theorem pageWriteBurstComplete :
    Statement (.pageWriteBurstComplete) := fun _ _ q _ => kind_range q

theorem copyReadComplete :
    Statement (.copyReadComplete) := fun _ _ q _ => kind_range q

theorem copyWriteComplete :
    Statement (.copyWriteComplete) := fun _ _ q _ => kind_range q

theorem loadReadComplete :
    Statement (.loadReadComplete) := fun _ _ q _ => kind_range q

theorem verifyReadComplete :
    Statement (.verifyReadComplete) := fun _ _ q _ => kind_range q

theorem supplyFailing (batteryAble : Bool) :
    Statement (.supplyFailing batteryAble) := fun _ _ q _ => kind_range q

theorem consolePowerUp (weak : Bool) :
    Statement (.consolePowerUp weak) := fun _ _ q _ => kind_range q

theorem consoleReset :
    Statement (.consoleReset) := fun _ _ q _ => kind_range q

theorem resetRelease :
    Statement (.resetRelease) := fun _ _ q _ => kind_range q

theorem batteryLoss :
    Statement (.batteryLoss) := fun _ _ q _ => kind_range q

theorem batteryDomainRestart :
    Statement (.batteryDomainRestart) := fun _ _ q _ => kind_range q

theorem sramContentsLost :
    Statement (.sramContentsLost) := fun _ _ q _ => kind_range q

theorem portStatusWrite (w : Word) :
    Statement (.portStatusWrite w) := fun _ _ q _ => kind_range q

end Sys2Proof.Laws.WireKind
end

