-- ==== Sys2Proof/WellFormed.lean ====
section
/-! DEFINITION. The well-formed commands: what a sender may send. Everything else about a command's
operands is the part's own to judge, and it answers with a result code (R169, R174). -/

namespace Sys2Proof

/-- A command is well formed when its operands name something the spec has: SAVE_DATA carries 1 to 64
bytes (R116), BAD_REQUEST carries a malformed request (R169), VOICE_STARVE names one of the sixteen
voices (R1). -/
def Instr.wellFormed : Instr → Bool
  | .saveData _ _ bytes => decide (1 ≤ bytes.length) && decide (bytes.length ≤ 64)
  | .badRequest _ r => r.malformed
  | .voiceStarve v => decide (v < 16)
  | _ => true

end Sys2Proof
end

