-- ==== Sys2Proof/Tests/Slice0.lean ====
section
/-! SUPPORT. Tests: the ill-formed commands that WellFormed refuses, the worked figures of the spec, and for
each statement with hypotheses a state and operands that meet them. Expected values come from the chapters
named, or by hand from their rules. -/

namespace Sys2Proof.Tests

open Sys2Proof.Machine

/-! ## States to test on -/

/-- The part after a start-up: configuration loaded, mount done, nothing waiting. -/
def on : State :=
  { State.reset with
    bm := { State.reset.bm with supply := .consoleOn }
    bd := { State.reset.bd with marker := false, gateOpen := true }
    bl := { State.reset.bl with phase := .loaded }
    gc := { State.reset.gc with dayEval := true }
    ss := { State.reset.ss with state := .ready } }

/-- `on` with its store as given. -/
def withStore (ss : Store) : State := { on with ss := { ss with state := .ready } }

/-- A VALID body of 64 bytes in block 16. -/
def body : SlotBody :=
  { damaged := false, length := 64, check := 0xFFFF, seconds := 0, day := 0, writer := .game,
    copiedFrom := none, chain := [16] }

/-- `on` with slot 0 VALID. -/
def saved : State := withStore (on.ss.setSlot 0 { serial := 3, locked := false, body := some body })

/-- A write transaction of 64 bytes on slot 1. -/
def txn (state : TxnState) (cursor : Nat) : Txn :=
  { slot := 1, length := 64, state := state, reservation := [16], cursor := cursor, running := 0xFFFF,
    region := List.replicate 32 0 }

/-- `on` with a transaction of the game processor. -/
def writing (state : TxnState) (cursor : Nat) : State := withStore { on.ss with txnGame := some (txn state cursor) }

/-- A state with a store operation in flight. -/
def flying (s : State) (owner : OpOwner) (bytes : Option (List Byte)) (ended : Bool) : State :=
  { s with pma := { s.pma with inFlight := some (.store ⟨owner, 131040, bytes⟩ ended) } }

/-- A voice in a state. -/
def voiceIn (st : VoiceState) : Voice := { Voice.initial with state := st, attack := 5, len := 4 }

/-- `on` with voice 0 in a state. -/
def voiced (st : VoiceState) : State :=
  { on with voices := putAt on.voices 0 (voiceIn st), age := [0] }

/-- `on` with every voice in use, of priority 1, owned by GAME. -/
def crowded : State :=
  { on with voices := Vector.replicate 16 { voiceIn .playing with priority := 1 }, age := voiceNumbers }

/-- Parameters of VOICE_START in range: a PCM8 sample of two bytes, of priority 7. -/
def start : VoiceStart :=
  { dest := 0, format := 0, source := 0, length := 2, loop := none, step := 0x10000, volume := 127,
    pan := 127, attack := 0, decay := 0, sustain := 0x7FFF, release := 0, priority := 7, notify := true }

/-- `on` with its rumble driver as given. -/
def driving (r : Rumble) : State := { on with rd := r }

/-! ## Well-formed commands -/

theorem test_saveData_empty_refused : (Instr.saveData .game 0 []).wellFormed = false := by decide
theorem test_saveData_65_refused :
    (Instr.saveData .game 0 (List.replicate 65 0)).wellFormed = false := by decide
theorem test_saveData_64_taken :
    (Instr.saveData .game 0 (List.replicate 64 0)).wellFormed = true := by decide
theorem test_badRequest_wellsized_refused :
    (Instr.badRequest .game ((Req.slotInfo 3).encode 1)).wellFormed = false := by decide
theorem test_voiceStarve_16_refused : (Instr.voiceStarve 16).wellFormed = false := by decide

/-! ## Worked figures of the spec -/

/-- Two's complement, most significant bit first, left before right (R36): -2 and 1 by hand. -/
theorem test_audio_line : ({ State.reset with mx := { Mixer.initial with outL := -2, outR := 1 } } : State).audioLine
    = List.replicate 15 true ++ [false] ++ (List.replicate 15 false ++ [true]) := by decide

/-- R96: the nine characters 1 to 9 give 0x29B1. -/
theorem test_crc16_check :
    crc16 [0x31, 0x32, 0x33, 0x34, 0x35, 0x36, 0x37, 0x38, 0x39] = 0x29B1 := by decide +kernel
/-- R96: an empty run of bytes gives 0xFFFF. -/
theorem test_crc16_empty : crc16 [] = 0xFFFF := by decide
/-- 10, system link port: the nine characters 1 to 9 give 0xF4. -/
theorem test_crc8_check :
    crc8 [0x31, 0x32, 0x33, 0x34, 0x35, 0x36, 0x37, 0x38, 0x39] = 0xF4 := by decide +kernel
/-- 11.4: SAVE_OPEN of slot 2, length 600, tag 7. -/
theorem test_words_saveOpen :
    requestWords 7 (.saveOpen 2 600) = [0x3203, 0x0007, 0x5802, 0x0002] := by decide
/-- 11.4: its reply, three blocks, and a refusal with NO_SPACE. -/
theorem test_words_saveOpen_reply :
    Reply.words ⟨0x32, 7, .ok, u8 3⟩ = [0x3201, 0x0007, 0x0003]
      ∧ Reply.words ⟨0x32, 7, .noSpace, []⟩ = [0x3200, 0x0707] := by decide
/-- 2.6: the two voices of the worked frame. -/
theorem test_worked_voices :
    ({ voiceIn .playing with volume := 100, pan := 32, level := 24576, f := 0x4000 } : Voice).fresh 1000
        3000 = ⟨652, 219, 0⟩
      ∧ ({ voiceIn .playing with volume := 127, pan := 64, level := 32767 } : Voice).fresh (-12800)
        (-12800) = ⟨-6251, -6350, 0⟩ := by decide
/-- 2.6: the output of the worked frame, with duck in force. -/
theorem test_worked_frame :
    let mx := { Mixer.initial with mg := 160, dk := 128, alg := 652, arg := 219, als := -6251, ars := -6350 }
    ((mx.form true).nextL, (mx.form true).nextR, (mx.form true).clip) = (-5844, -6214, 0) := by decide
/-- 4.8: the worked tick. -/
theorem test_worked_tick :
    let r := (Rumble.initial false).tick builtIn 7248
    (r.drive, r.duty, r.state, r.lastDir, r.heat) = (5436, 135, .fwd, .fwd, 0) := by decide
/-- 4.3, R59: −7 at strength 1 is −1. -/
theorem test_scaled_drive : scaledDrive (-7) 1 = -1 := by decide
/-- 5.8: the second 800,032,400 of local time. -/
theorem test_worked_calendar :
    calendar 800032400 = ⟨2025, 5, 8, 15, 13, 20, 4⟩ := by decide
/-- 5.8: CLOCK_SET for 2025-05-06 10:00:00 in zone +36. -/
theorem test_worked_clockSet :
    newSeconds { year := 2025, month := 5, day := 6, hour := 10, minute := 0, second := 0 } 36
      = 799808400 := by decide
/-- R52: the worked sample that ends at the ROM's last byte, and the one that does not. -/
theorem test_worked_romEnd :
    startInRange { start with format := 1, source := 8388000, length := 304 } 8388608 = true
      ∧ startInRange { start with format := 1, source := 8388000, length := 305 } 8388608 = false := by
  decide
/-- R97: the generation after the top is 1, and it is the higher. -/
theorem test_generation_wraps :
    nextGen 4294967295 = 1 ∧ higherGen 1 4294967295 = true ∧ higherGen 4294967295 1 = false := by decide
/-- R115 and 11.4: SAVE_OPEN of 600 bytes reserves blocks 16 to 18. -/
theorem test_saveOpen_reserves :
    on.reserve 600 = [16, 17, 18] := by decide +kernel

/-! ## The hypotheses of the statements can be met -/

/-- The ready part takes a request of every family from either master. -/
theorem on_takes (m : Master) (f : Family) : on.takes m f := by
  cases m <;> cases f <;> exact ⟨⟨rfl, rfl, rfl⟩, rfl⟩

theorem witness_RequestCodec : (Req.saveData [0]).WellFormed
    ∧ (Req.saveData (List.replicate 64 0)).WellFormed ∧ (Req.faultClearOther 3 0).WellFormed
    ∧ Req.storeInfo.WellFormed :=
  ⟨⟨by decide, by decide⟩, ⟨by decide, by decide⟩, ⟨by decide, by decide, by decide⟩, trivial⟩

theorem witness_WordsCarryRequest : on.portFree .game ∧ on.game.assembly = none
    ∧ (Req.saveData [0]).WellFormed :=
  ⟨⟨rfl, rfl, rfl⟩, rfl, by decide, by decide⟩

/-- A queue with all reply slots reserved and `n` requests waiting. -/
def busyQueue (n reserved : Nat) : Queues :=
  { Queues.initial with requests := List.replicate n ((Req.slotInfo 3).encode 1), reserved := reserved }

/-- The link port with a reply placed before or after its notice. -/
def linkHolding (reply notice : Nat) : State :=
  { on with
    sys := { on.sys with
      q := { Queues.initial with
        replies := [(reply, ⟨0x32, 7, .ok, [3]⟩)], notices := [(notice, .txnLost 2 .erased)] } } }

theorem witness_FrameCarriesRequest : on.portFree .system ∧ on.sys.rx = .idle
    ∧ (Req.saveData [0]).WellFormed ∧ on.sys.q.requests.length < 8
    ∧ (List.replicate 64 (0 : Byte)).length ≤ 64 ∧ (0xA4#8 : Byte) ≠ 0xA5
    ∧ (0x02#8 : Byte) ≠ 0x01 ∧ 68 < (List.replicate 69 (0 : Byte)).length
    ∧ (on.sys.q.replies = [] ∧ on.sys.q.notices = [] ∧ on.frameOutlasts 73)
    ∧ (let s := on.setQueues .system (busyQueue 8 8)
       s.powered = true ∧ s.sys.rx = .idle ∧ s.sys.q.requests.length = 8 ∧ s.frameOutlasts 73)
    ∧ (let s := linkHolding 0 1
       s.powered = true ∧ s.sys.rx = .idle ∧ s.systemAttention = true
       ∧ s.frameOutlasts (requestFrameBytes 7 .rumbleResume).length
       ∧ { s with sys := { s.sys with sent := 8 } }.oldestFrame.length ≤ 9) :=
  ⟨⟨rfl, rfl, rfl⟩, rfl, ⟨by decide, by decide⟩, by decide, by decide, by decide, by decide, by decide,
    ⟨rfl, rfl, by unfold State.frameOutlasts; decide⟩,
    ⟨rfl, rfl, rfl, by unfold State.frameOutlasts; decide⟩,
    ⟨rfl, rfl, rfl, by unfold State.frameOutlasts; decide, by decide⟩⟩

theorem witness_RefusedBeforeJob : (Request.malformed ⟨9, 1, 2, [3]⟩ = true ∧ on.portFree .system)
    ∧ let s := { on with ss := { on.ss with state := .mounting } }
      requestCommand .game 0 .storeInfo = some (.storeInfo .game 0) ∧ Req.storeInfo.WellFormed
        ∧ s.portFree .game ∧ s.familyReady .store = false :=
  ⟨⟨by decide, rfl, rfl, rfl⟩, rfl, trivial, ⟨rfl, rfl, rfl⟩, rfl⟩

theorem witness_RequestsDrain : Req.storeInfo.WellFormed
    ∧ requestCommand .game 0 .storeInfo = some (.storeInfo .game 0)
    ∧ (let s := on.setQueues .game (busyQueue 7 8)
       s.powered = true ∧ 0 < s.requestSpace .game ∧ (s.queues .game).slotFree = false)
    ∧ (let s := on.setQueues .system (busyQueue 8 8)
       s.powered = true ∧ s.requestSpace .system = 0)
    ∧ (let s := on.setQueues .game (busyQueue 1 7)
       (s.queues .game).requests = (Req.slotInfo 3).encode 1 :: [] ∧ (s.queues .game).slotFree = true)
    ∧ (on.queues .game).requests = []
    ∧ (let q (n : Nat) : Queues := { Queues.initial with notices := List.replicate n (0, .txnLost 2 .erased) }
       (q 15).notices.length < 16 ∧ 16 ≤ (q 16).notices.length) :=
  ⟨trivial, rfl, by decide, by decide, by decide, rfl, by decide⟩

theorem witness_GameRequestsLeave : requestCommand .game 0 .storeInfo = some (.storeInfo .game 0)
    ∧ ∃ t, exec (.storeInfo .game 0) on = .next t := ⟨rfl, _, rfl⟩

theorem witness_PartInfoReports : on.portFree .game ∧ State.reset.powered = false := ⟨⟨rfl, rfl, rfl⟩, rfl⟩

/-- The game port with an assembly or requests as given. -/
def gameWith (a : Option (List Word)) (n : Nat) : State :=
  { on with game := { on.game with assembly := a, q := busyQueue n 8 } }

theorem witness_ReqWriteAssembles :
    ((gameWith none 8).powered = true ∧ (gameWith none 8).game.assembly = none
      ∧ (gameWith none 8).game.q.requests.length = 8)
    ∧ ((gameWith none 7).powered = true ∧ (gameWith none 7).game.assembly = none
      ∧ (gameWith none 7).game.q.requests.length < 8)
    ∧ ((gameWith (some [0x3203]) 0).game.assembly = some (0x3203 :: []) ∧ ([] : List Word).length + 2 < wordsNeeded 0x3203)
    ∧ ((gameWith (some [0x3241]) 7).game.assembly = some (0x3241 :: []) ∧ ([] : List Word).length + 2 = wordsNeeded 0x3241) :=
  by decide

/-- A port that holds one reply of three words and one notice of three. -/
def holding (pos lost : Nat) : State :=
  { on with
    game := { on.game with
      replyPos := pos, noticePos := pos
      q := { Queues.initial with
        lost := lost, replies := [(0, ⟨0x32, 7, .ok, [3]⟩)], notices := [(1, .txnLost 2 .erased)] } } }

theorem witness_GameReads : on.powered = true ∧ on.game.q.replies = [] ∧ on.game.q.notices = []
    ∧ (let s := holding 1 0
       let r : Reply := ⟨0x32, 7, .ok, [3]⟩
       s.powered = true ∧ s.game.q.replies = (0, r) :: [] ∧ s.game.replyPos + 1 < r.words.length
       ∧ r.words[s.game.replyPos]? = some 0x0007)
    ∧ (let s := holding 2 1
       let r : Reply := ⟨0x32, 7, .ok, [3]⟩
       let n : Notice := .txnLost 2 .erased
       s.powered = true ∧ s.game.q.replies = (0, r) :: [] ∧ s.game.replyPos + 1 = r.words.length
       ∧ r.words[s.game.replyPos]? = some 0x0003 ∧ s.game.q.notices = (1, n) :: []
       ∧ s.game.noticePos + 1 = n.words.length ∧ n.words[s.game.noticePos]? = some 0x0002)
    ∧ (let s := holding 1 0
       let n : Notice := .txnLost 2 .erased
       s.game.noticePos + 1 < n.words.length ∧ n.words[s.game.noticePos]? = some 0) := by decide

theorem witness_PortStatus : on.powered = true ∧ on.game.pointer = .a
    ∧ { on with game := { on.game with pointer := .b } }.game.pointer = .b := ⟨rfl, rfl, rfl⟩

theorem witness_SendFrameOldest :
    (on.powered = true ∧ on.sys.q.replies = [] ∧ on.sys.q.notices = [])
    ∧ ((linkHolding 0 1).sys.q.replies = (0, ⟨0x32, 7, .ok, [3]⟩) :: []
      ∧ ∀ n ∈ (linkHolding 0 1).sys.q.notices.head?, 0 ≤ n.1)
    ∧ ((linkHolding 1 0).sys.q.notices = (0, .txnLost 2 .erased) :: []
      ∧ ∀ r ∈ (linkHolding 1 0).sys.q.replies.head?, 0 < r.1)
    ∧ ((linkHolding 0 1).sys.sent + 1 < (linkHolding 0 1).oldestFrame.length
      ∧ (let s := { linkHolding 0 1 with sys := { (linkHolding 0 1).sys with sent := 8 } }
         s.sys.q.replies ≠ [] ∧ s.oldestFrame.length ≤ s.sys.sent + 1)) := by decide

/-- The state after reset meets the invariants, and steps (the idle step is a next state). -/
theorem witness_invariants : State.reset.bridgeSafe ∧ State.reset.memorySafe
    ∧ State.reset.gateSafe ∧ State.reset.age = []
    ∧ (∃ t, step { State.reset with pending := [.rspRead] } = .next t) :=
  ⟨⟨by unfold LegState.safe; decide, by unfold LegState.safe; decide,
      fun _ leg => by cases leg <;> decide, fun _ => ⟨rfl, .inl rfl, fun leg => by cases leg <;> exact ⟨rfl, rfl, rfl⟩⟩, by simp [State.reset]⟩,
    by unfold State.memorySafe; decide, rfl, rfl, _, rfl⟩

theorem witness_queuesSafe : State.reset.queuesSafe :=
  ⟨by decide, by decide, by decide, by decide, fun m => by cases m <;> decide⟩

theorem witness_storeSafe : State.reset.storeSafe := by
  refine ⟨by decide +kernel, ⟨fun m => by cases m <;> decide, by decide, ?_⟩, ?_, ⟨128, by decide +kernel⟩,
    by decide, ?_, by decide, by decide, by decide, ?_⟩
  · intro m t h; cases m <;> cases h
  · intro w h; cases h
  · intro m h; cases h
  · intro i h; cases h

theorem witness_poolSafe : crowded.poolSafe ∧ State.reset.poolSafe := by
  unfold State.poolSafe; decide +kernel

theorem witness_clockSafe : on.clockSafe := by
  refine ⟨by decide, by decide, by decide, by decide, by decide, ?_, by decide, by decide, by decide, ?_⟩ <;>
    (intro _ h; cases h)

/-! The voice pool and the mixer -/

theorem witness_StartRange : on.takes .game .running ∧ startInRange { start with dest := 2 } 64 = false
    ∧ startInRange { start with loop := some 0 } 2 = true ∧ startInRange start 64 = true
    ∧ (setUpChannel { start with loop := some 0 } false false).loopAddr = some 0 :=
  ⟨on_takes _ _, by decide, by decide, by decide, rfl⟩

theorem witness_VoiceStartTakesFree : on.takes .system .running
    ∧ startInRange start on.bl.cfg.romBytes = true ∧ on.voices[(0 : Fin 16)].state = .free
    ∧ ∀ w : Fin 16, w < 0 → on.voices[w].state ≠ .free :=
  ⟨on_takes _ _, by decide, by decide, by decide⟩

theorem witness_VoiceStartSteals : crowded.takes .game .running
    ∧ startInRange start crowded.bl.cfg.romBytes = true ∧ (∀ w : Fin 16, crowded.voices[w].state ≠ .free)
    ∧ crowded.victim .game start.priority.toNat = some 0
    ∧ crowded.victim .game ({ start with priority := 1 } : VoiceStart).priority.toNat = none :=
  ⟨⟨⟨rfl, rfl, rfl⟩, rfl⟩, by decide, by decide, by decide +kernel, by decide +kernel⟩

theorem witness_VictimChosen : crowded.poolSafe ∧ (∀ w : Fin 16, crowded.voices[w].state ≠ .free)
    ∧ crowded.victim .system 2 = some 0 ∧ mayTake crowded .game 2 3 ∧ crowded.victim .game 1 = none :=
  ⟨witness_poolSafe.1, by decide, by decide +kernel, ⟨by decide, by decide⟩, by decide +kernel⟩

theorem witness_VoiceEnds : let s := { voiced .playing with
      voices := putAt on.voices 0 { voiceIn .playing with starve := 3 } }
    s.powered = true ∧ s.voices[(0 : Fin 16)].state ≠ .free ∧ 3 ≤ s.voices[(0 : Fin 16)].starve := by decide

/-- The handle of voice 0 is 0, and the game processor owns the voice. -/
theorem witness_handles (st : VoiceState) (h : st ≠ .free) : (voiced st).takes .game .running
    ∧ (voiced st).ownsHandle .game 0 ∧ (voiced st).voices[handleVoice 0].state = st :=
  ⟨⟨⟨rfl, rfl, rfl⟩, rfl⟩, ⟨by cases st <;> decide, by cases st <;> simp_all <;> decide, rfl⟩, rfl⟩

theorem witness_VoiceSetStages :
    let p : VoiceSet := { handle := 0, step := none, volume := some 127, pan := some 127 }
    let q : VoiceSet := { handle := 0, step := none, volume := some 128, pan := none }
    (voiced .keyed).ownsHandle .game p.handle ∧ (∀ b, p.volume = some b → b.toNat ≤ 127)
    ∧ (∀ b, p.pan = some b → b.toNat ≤ 127)
    ∧ ∃ b, (q.volume = some b ∨ q.pan = some b) ∧ 127 < b.toNat :=
  ⟨(witness_handles .keyed (by decide)).2.1, by simp, by simp, 128, .inl rfl, by decide⟩

theorem witness_VoiceReleasedOrStopped : (voiced .playing).voices[handleVoice 0].state = .playing
    ∧ (voiced .releasing).voices[handleVoice 0].state = .releasing
    ∧ (voiced .keyed).voices[handleVoice 0].state = .keyed ∧ (voiced .keyed).ownsHandle .game 0 :=
  ⟨rfl, rfl, rfl, (witness_handles .keyed (by decide)).2.1⟩

theorem witness_HandleChecked : requestCommand .system 0 (.voiceStop 0) = some (.voiceStop .system 0 0)
    ∧ (voiced .keyed).takes .system .running
    ∧ ((voiced .keyed).voices[handleVoice 0x10].gen ≠ handleGen 0x10)
    ∧ on.voices[handleVoice 0].state = .free
    ∧ ((voiced .keyed).voices[handleVoice 0].gen = handleGen 0
      ∧ (voiced .keyed).voices[handleVoice 0].state ≠ .free
      ∧ (voiced .keyed).voices[handleVoice 0].owner ≠ .system) :=
  ⟨rfl, ⟨⟨rfl, rfl, rfl⟩, rfl⟩, by decide, rfl, by decide, by decide, by decide⟩

theorem witness_VoiceQueryReports : on.voices[handleVoice 0x10].gen ≠ handleGen 0x10
    ∧ on.voices[handleVoice 0].gen = handleGen 0 ∧ on.voices[handleVoice 0].state = .free
    ∧ (voiced .keyed).voices[handleVoice 0].gen = handleGen 0
    ∧ (voiced .keyed).voices[handleVoice 0].state ≠ .free := by decide

theorem witness_ContributionBounded : (-32768 : Int) ≤ -32768 ∧ (32767 : Int) ≤ 32767
    ∧ ({ voiceIn .playing with f := 65535, level := 32767, volume := 127, pan := 127 } : Voice).f < 65536
    ∧ (voiceIn .playing).dest = .speaker ∧ (voiceIn .playing).level = 0
    ∧ ({ voiceIn .playing with dest := .motor } : Voice).dest = .motor
    ∧ ({ voiceIn .playing with format := .pcm16, loop := some 0 } : Voice).samples [0xFF, 0x7F, 0, 0x80]
      = some (32767, -32768)
    ∧ ({ voiceIn .playing with format := .pcm16, loop := some 0 } : Voice).samples [0xFF, 0x7F, 0] = none := by
  decide

theorem witness_FrameForms : on.powered = true ∧ on.bl.phase ≠ .held ∧ on.mx.frames < 32
    ∧ on.voices[(0 : Fin 16)].sounds = false
    ∧ 32 ≤ { on with mx := { on.mx with frames := 32 } }.mx.frames := by decide

/-- A voice that sounds, with two samples, one sample or none in its FIFO. -/
def sounding (loop : Option Nat) (step : Nat) (fifo : List Byte) : State :=
  { on with
    voices := putAt on.voices 0 { voiceIn .playing with step := step, loop := loop, n := 3 }
    channels := putAt on.channels 0 { Channel.initial with fifo := fifo }, age := [0] }

theorem witness_VoiceInFrame : on.voices[(0 : Fin 16)].sounds = false
    ∧ (let s := sounding none 0 []
       s.voices[(0 : Fin 16)].sounds = true ∧ s.voices[(0 : Fin 16)].samples s.channels[(0 : Fin 16)].fifo = none)
    ∧ (let s := sounding none 65535 [1]
       s.voices[(0 : Fin 16)].samples s.channels[(0 : Fin 16)].fifo = some (256, 256)
       ∧ s.voices[(0 : Fin 16)].loop = none ∧ (3 * 65536 + 0 + 65535) / 65536 < s.voices[(0 : Fin 16)].len)
    ∧ (let s := sounding (some 2) 65536 [1, 2]
       s.voices[(0 : Fin 16)].samples s.channels[(0 : Fin 16)].fifo = some (256, 512)
       ∧ s.voices[(0 : Fin 16)].loop = some 2 ∧ 2 < s.voices[(0 : Fin 16)].len
       ∧ s.voices[(0 : Fin 16)].len ≤ (3 * 65536 + 0 + 65536) / 65536)
    ∧ ((voiceIn .playing).dest = .speaker ∧ (voiceIn .playing).owner = .game
      ∧ (voiceIn .playing).last = ⟨0, 0, 0⟩) := by decide

theorem witness_TickActs : ({ on with mx := { on.mx with frames := 32 } }.powered = true
      ∧ 32 ≤ { on with mx := { on.mx with frames := 32 } }.mx.frames)
    ∧ (voiced .playing).voices[(0 : Fin 16)].state ≠ .free ∧ on.voices[(0 : Fin 16)].state = .free
    ∧ on.loaded = true ∧ State.reset.loaded = false := by decide

theorem witness_MixRequests : on.takes .game .running ∧ (∀ w, some (255#16) = some w → w.toNat ≤ 255)
    ∧ 255 < (256#16).toNat := ⟨on_takes _ _, by simp, by decide⟩

/-! Sample fetch, the bus, the rumble driver and the clock -/

/-- A fetch burst in flight for a channel in a state. -/
def fetching (c : Channel) : State :=
  { voiced .keyed with
    channels := putAt on.channels 0 c, pma := { inFlight := some (.fetch 0 16777184 32), runCount := 7 } }

theorem witness_FetchBurstDelivers : (fetching Channel.initial).powered = true
    ∧ (fetching Channel.initial).pma.inFlight = some (.fetch 0 16777184 32) ∧ 16777184 + 32 ≤ 16777216
    ∧ (∀ v a l, on.pma.inFlight ≠ some (.fetch v a l)) := by
  refine ⟨rfl, rfl, by decide, ?_⟩; intro v a l h; cases h

/-- The bus free, with voice 1's channel streaming and the store's queue and run count as given. -/
def claiming (fill : Nat) (ops : List StoreOp) (run : Nat) : State :=
  { on with
    channels := putAt on.channels 1
      { Channel.initial with state := .streaming, toEnd := 32, fifo := List.replicate fill 0 }
    pma := { inFlight := none, runCount := run }, ss := { on.ss with ops := ops } }

theorem witness_GrantOrder :
    let op : StoreOp := ⟨.verify, 0, none⟩
    ((claiming 47 [op] 7).powered = true ∧ (claiming 47 [op] 7).pma.inFlight = none
      ∧ (claiming 47 [op] 7).pma.runCount = 7 ∧ (claiming 47 [op] 7).bl.phase ≠ .loading)
    ∧ (∀ v : Fin 16, (claiming 48 [op] 0).channels[v].urgent = false)
    ∧ (let s := { on with bl := Boot.initial }
       s.bl.phase = .loading ∧ s.bl.granted < 2 ∧ s.pma.runCount ≠ 7)
    ∧ ((claiming 47 [op] 6).pma.runCount ≠ 7 ∧ (claiming 47 [op] 6).channels[(1 : Fin 16)].urgent = true)
    ∧ ((claiming 96 [] 0).channels[(1 : Fin 16)].ready = true
      ∧ (∀ v : Fin 16, (claiming 96 [] 0).channels[v].urgent = false) ∧ (claiming 96 [] 0).ss.ops = [])
    ∧ (∀ v : Fin 16, (claiming 97 [] 0).channels[v].ready = false) := by decide

theorem witness_RumbleRequests : on.takes .game .running ∧ on.takes .system .running :=
  ⟨on_takes _ _, on_takes _ _⟩

theorem witness_CutoffLatches : (on.powered = true ∧ on.loaded = true ∧ on.rd.cutoffInput = false
      ∧ on.rd.state ≠ .cutoff)
    ∧ (let s := driving { on.rd with state := .cutoff, cutoffInput := true }
       s.rd.state = .cutoff ∧ s.rd.cutoffInput = true)
    ∧ State.reset.powered = false := by decide

/-- A driver whose leg A waits on its guard in BRAKE. -/
def braking : State :=
  driving { on.rd with
    state := .brake, driven := .brake, legA := ⟨false, false, ⟨33, some .high⟩⟩, remembered := .rev }

/-- `on` with its bridge driven FWD or about to be, leg A as given and leg B off. -/
def pulsing (driven : MotorState) (duty carrier : Nat) (pending : Option (MotorState × Nat)) (a : LegState) :
    State :=
  driving { on.rd with driven := driven, drivenDuty := duty, carrier := carrier, pending := pending, legA := a }

theorem witness_BridgeTimers : (on.powered = true ∧ on.bl.phase ≠ .held ∧ on.rd.carrier < on.bl.cfg.pc
      ∧ 0 < on.rd.staleTimer ∧ on.bl.cfg.pc - on.rd.carrier < on.rd.staleTimer)
    ∧ (let s := driving { on.rd with driven := .fwd, drivenDuty := 818, carrier := 817 }
       s.rd.driven = .fwd ∧ s.rd.carrier < s.rd.drivenDuty ∧ s.rd.drivenDuty < s.bl.cfg.pc)
    ∧ (braking.rd.driven = .brake ∧ braking.rd.pending = none ∧ (braking.rd.leg .a).high = false
      ∧ (braking.rd.leg .a).low = false ∧ (braking.rd.leg .a).guard.last = some .high
      ∧ 0 < (braking.rd.leg .a).guard.count ∧ (braking.rd.leg .a).guard.count ≤ braking.bl.cfg.td
      ∧ (braking.rd.leg .a).guard.count < braking.rd.staleTimer ∧ 32 < (braking.rd.leg .a).guard.count)
    ∧ (let s := pulsing .fwd 818 817 none { high := true, low := false, guard := ⟨0, some .high⟩ }
       s.rd.drivenDuty < s.bl.cfg.pc ∧ s.rd.drivenDuty - s.rd.carrier < s.rd.staleTimer
       ∧ (s.rd.leg .a).high = true ∧ (s.rd.leg .a).low = false)
    ∧ (let s := pulsing .fwd 819 785 none { high := false, low := false, guard := ⟨33, some .low⟩ }
       s.rd.driven = .fwd ∧ s.rd.pending = none ∧ (s.rd.leg .a).guard.last = some .low
       ∧ 0 < (s.rd.leg .a).guard.count ∧ (s.rd.leg .a).guard.count < s.rd.staleTimer
       ∧ s.rd.carrier + (s.rd.leg .a).guard.count < s.rd.drivenDuty ∧ s.rd.drivenDuty ≤ s.bl.cfg.pc)
    ∧ (let s := pulsing .rev 300 0 none { high := false, low := false, guard := ⟨33, some .high⟩ }
       s.rd.driven = .rev ∧ (s.rd.leg .a).guard.last = some .high ∧ 0 < (s.rd.leg .a).guard.count)
    ∧ (let s := pulsing .coast 0 786 (some (.fwd, 0)) { high := false, low := false, guard := ⟨33, some .low⟩ }
       let n := s.bl.cfg.pc - s.rd.carrier
       s.rd.carrier < s.bl.cfg.pc ∧ n < s.rd.staleTimer ∧ s.rd.driven = .coast
       ∧ s.rd.pending.getD (s.rd.driven, s.rd.drivenDuty) = (.fwd, 0) ∧ (s.rd.leg .a).low = false
       ∧ (s.rd.leg .b).high = false ∧ (s.rd.leg .a).guard.count ≤ n ∧ (s.rd.leg .b).guard.last ≠ some .high)
    ∧ (let s (carrier : Nat) := driving { on.rd with carrier := carrier }
       (s 818).rd.carrier = (s 818).bl.cfg.pc - 1 ∧ (s 818).bl.cfg.pc ≤ (s 819).rd.carrier
       ∧ (s 818).bl.cfg.pc ≤ (s 2046).rd.carrier ∧ (s 2046).powered = true ∧ (s 2046).bl.phase ≠ .held
       ∧ (s 2046).rd.staleTimer ≠ 1 ∧ ¬((s 2046).rd.legA.high = true ∧ (s 2046).rd.legA.low = true))
    ∧ (let s := driving { on.rd with state := .fwd, staleTimer := 1 }
       s.loaded = true ∧ 0 < s.rd.staleTimer ∧ s.rd.stale = false ∧ s.rd.state ≠ .cutoff
       ∧ s.rd.state ≠ .disabled)
    ∧ (braking.loaded = true ∧ braking.rd.state = .brake ∧ braking.rd.brakeTimer = 0)
    ∧ { on with bl := { on.bl with phase := .held } }.bl.phase = .held
    ∧ (driving { on.rd with staleTimer := 0 }).rd.staleTimer = 0 := by decide

theorem witness_ClockRequests : on.takes .game .clock ∧ on.takes .system .clock
    ∧ datePasses { year := 2135, month := 12, day := 31, hour := 23, minute := 59, second := 59 } = true
    ∧ (208#8 : Byte).toInt = -48 ∧ (56#8 : Byte).toInt = 56 :=
  ⟨on_takes _ _, on_takes _ _, by decide, by decide, by decide⟩

/-- A rate check under way. -/
def checking (rate : RateState) (edges : Nat) : State :=
  { on with gc := { on.gc with rate := rate, target := 2, edges := edges, gap := 32768 } }

theorem witness_RateCheckRuns : on.takes .system .clock ∧ on.gc.rate = .idle
    ∧ (checking .armed 0).gc.rate = .armed
    ∧ ((checking .counting 0).gc.edges + 1 ≠ (checking .counting 0).gc.target)
    ∧ ((checking .counting 1).gc.edges + 1 = (checking .counting 1).gc.target)
    ∧ ((checking .armed 0).powered = true ∧ (checking .armed 0).gc.gap ≤ 32768)
    ∧ (checking .armed 0).clockSafe :=
  ⟨on_takes _ _, rfl, rfl, by decide, by decide, by decide, witness_clockSafe⟩

theorem witness_Boundaries : on.bm.supply ≠ .batteryLost ∧ State.reset.bm.supply ≠ .batteryLost
    ∧ on.clockSafe ∧ on.bl.phase = .loaded ∧ on.powered = true ∧ on.gc.rate = .idle
    ∧ ((checking .counting 0).gc.rate ≠ .idle ∧ 32767 < (checking .counting 0).gc.gap
      ∧ (checking .counting 0).gc.gap ≤ 32768) :=
  ⟨by decide, by decide, witness_clockSafe, rfl, rfl, rfl, by decide⟩

theorem witness_CalendarInverts :
    datePasses { year := 2000, month := 2, day := 29, hour := 0, minute := 0, second := 0 } = true
    ∧ (calendar 4295017695).year = 2136 ∧ (12 : Nat) ≤ 12 := by
  decide

theorem witness_DhwNeverLowered : let s := { State.reset with pending := [.consolePowerUp false] }
    (∃ t, step s = .next t) ∧ (∀ rest, s.pending ≠ .batteryDomainRestart :: rest)
    ∧ s.bm.supply ≠ .batteryLost := by
  refine ⟨⟨_, rfl⟩, ?_, by decide⟩; intro rest h; cases h

theorem witness_BatteryDomainKept : on.clockSafe ∧ on.gateSafe
    ∧ ∃ t, step { on with pending := [.trimSet .system 0 0x8000] } = .next t :=
  ⟨witness_clockSafe, rfl, _, rfl⟩

/-! The memories, the store and the fault log -/

theorem witness_OnlyBurstsWriteSram : on.memorySafe ∧ (flying on .copyRead none true).storeInFlight
      ⟨.copyRead, 131040, none⟩ true :=
  ⟨by unfold State.memorySafe; decide, rfl, rfl, rfl, by decide⟩

theorem witness_StoreReports : on.takes .game .store ∧ (0#8 : Byte).toNat = (0 : Fin 32).val
    ∧ on.ss.dir.slots[(0 : Fin 32)].body = none ∧ saved.ss.dir.slots[(0 : Fin 32)].body = some body
    ∧ (0 : Fin 32).val < saved.bl.cfg.ng := ⟨on_takes _ _, rfl, rfl, rfl, by decide⟩

theorem witness_RightsRefuse : on.takes .game .store ∧ (24#8 : Byte).toNat = (24 : Fin 32).val
    ∧ on.bl.cfg.ng ≤ (24 : Fin 32).val
    ∧ requestCommand .game 0 (.slotErase 24) = some (.slotErase .game 0 24)
    ∧ 32 ≤ (32#8 : Byte).toNat ∧ requestCommand .game 0 (.slotErase 32) = some (.slotErase .game 0 32)
    ∧ (let s := { on with bl := { on.bl with cfg := { builtIn with visible := false } } }
       s.takes .game .store ∧ s.bl.cfg.visible = false ∧ s.bl.cfg.ng < 32) :=
  ⟨on_takes _ _, rfl, by decide, rfl, by decide, rfl, ⟨⟨rfl, rfl, rfl⟩, rfl⟩, rfl, by decide⟩

theorem witness_SaveOpens : on.takes .system .store ∧ (31#8 : Byte).toNat = (31 : Fin 32).val
    ∧ (Master.system = .game ↔ (31 : Fin 32).val < on.bl.cfg.ng) := ⟨on_takes _ _, rfl, by decide⟩

theorem witness_SaveDataWrites : (writing .opened 0).takes .game .store ∧ on.ss.txn .game = none
    ∧ (writing .opened 0).ss.txn .game = some (txn .opened 0)
    ∧ (txn .opened 0).cursor + 64 ≤ (txn .opened 0).length
    ∧ (txn .opened 1).length < (txn .opened 1).cursor + 64
    ∧ (flying on (.data .game 3 (some 64)) (some (List.replicate 32 0)) false).storeInFlight
      ⟨.data .game 3 (some 64), 131040, some (List.replicate 32 0)⟩ false
    ∧ [16, 511][15 / 8]? = some 511 :=
  ⟨⟨⟨rfl, rfl, rfl⟩, rfl⟩, rfl, rfl, by decide, by decide, ⟨rfl, rfl, rfl, by decide⟩, rfl⟩

theorem witness_CommitOrAbort : (writing .filled 64).takes .game .store ∧ on.ss.txn .game = none
    ∧ (writing .filled 64).ss.txn .game = some (txn .filled 64)
    ∧ (writing .filled 64).ss.queueFull = false ∧ (txn .opened 0).state = .opened
    ∧ (txn .committing 64).state = .committing :=
  ⟨⟨⟨rfl, rfl, rfl⟩, rfl⟩, rfl, rfl, by decide, rfl, rfl⟩

theorem witness_EraseAndLock : on.takes .game .store ∧ (23#8 : Byte).toNat = (23 : Fin 32).val
    ∧ (23 : Fin 32).val < on.bl.cfg.ng
    ∧ txnNamesOpen 1 ((writing .filled 64).ss.txn Master.system.other) = true
    ∧ txnNamesOpen 0 (on.ss.txn Master.system.other) = false
    ∧ (let e : Entry := ⟨.lock true, 31, .system, 0⟩
       ({ on.ss with commits := [e] } : Store).commits = [] ++ e :: [] ∧ e.kind = .lock true ∧ e.slot = 31)
    ∧ on.ss.commits = [] ∧ on.ss.pageWrite = none :=
  ⟨on_takes _ _, rfl, by decide, by decide, by decide, by decide, rfl, rfl⟩

/-- A page write with `left` bursts to go. -/
def pageWriteOf (left : Nat) (orphan : Bool) : PageWrite :=
  { target := .b, image := Directory.initial, entry := some ⟨.erase, 0, .game, 1⟩, released := [],
    left := left, orphan := orphan }

/-- `on` with such a page write under way. -/
def paging (left : Nat) (orphan : Bool) : State :=
  withStore { on.ss with pageWrite := some (pageWriteOf left orphan) }

theorem witness_CommitPoint : (paging 64 false).ss.pageWrite.isSome = true ∧ saved.ss.commits = []
    ∧ (let unlock : Entry := ⟨.lock false, 0, .system, 1⟩
       let erase : Entry := ⟨.erase, 0, .game, 2⟩
       (withStore { saved.ss with commits := [unlock, erase] }).ss.commits = unlock :: [erase])
    ∧ (saved.ss.pageWrite = none
      ∧ saved.ss.dir.slots[(0 : Fin 32)].body ≠ none ∧ saved.ss.dir.slots[(1 : Fin 32)].body = none
      ∧ saved.ss.dir.slots[(0 : Fin 32)].locked = false ∧ saved.ss.dir.slots[(0 : Fin 32)].locked ≠ true)
    ∧ (writing .committing 64).ss.txn .game = some (txn .committing 64)
    ∧ (flying (paging 1 false) (.page 63) (some (List.replicate 32 0)) false).storeInFlight
      ⟨.page 63, 131040, some (List.replicate 32 0)⟩ false :=
  ⟨rfl, rfl, rfl, by decide, rfl, rfl, rfl, rfl, by decide⟩

/-- The running copy of slot 0 to slot 2, and the bus state in which its burst completes. -/
def copying (region : Nat) (check : Word) : Copy :=
  { requester := .system, tag := 1, source := 0, destination := 2, chain := [16], length := 64,
    check := check, serial := 3, reservation := [17], region := region, crc := 0xFFFF, queued := false }

theorem witness_SlotCopyRuns : saved.takes .system .store ∧ (0 : Fin 32) ≠ 2
    ∧ saved.ss.lockSeen 2 = false ∧ saved.ss.copy = none ∧ txnNamesOpen 2 saved.ss.txnSystem = false
    ∧ saved.ss.dir.slots[(0 : Fin 32)].body = some body
    ∧ (copying 0 0).queued = false ∧ (copying 0 0).region + 1 < ((copying 0 0).length + 31) / 32
    ∧ ((copying 1 0).length + 31) / 32 ≤ (copying 1 0).region + 1
    ∧ (flying on .copyRead none false).storeInFlight ⟨.copyRead, 131040, none⟩ false
    ∧ (flying on .copyWrite (some []) false).storeInFlight ⟨.copyWrite, 131040, some []⟩ false :=
  ⟨⟨⟨rfl, rfl, rfl⟩, rfl⟩, by decide, by decide, rfl, rfl, rfl, rfl, by decide, by decide,
    ⟨rfl, rfl, rfl, by decide⟩, rfl, rfl, rfl, by decide⟩

/-- A cursor on slot 0 with a LOAD_DATA not yet answered. -/
def cursor : Cursor :=
  { slot := 0, chain := [16], length := 64, check := 0, serial := 3, pos := 64, running := 0xFFFF,
    loads := [{ tag := 1, start := 0, take := 64, burstsLeft := 2, got := [] }] }

theorem witness_LoadRequests : saved.takes .game .store
    ∧ saved.ss.dir.slots[(0 : Fin 32)].body = some body ∧ body.damaged = false
    ∧ on.ss.dir.slots[(0 : Fin 32)].body = none ∧ 0 < (64#8 : Byte).toNat ∧ (64#8 : Byte).toNat ≤ 64
    ∧ 64 < (65#8 : Byte).toNat ∧ on.ss.cursor .game = none
    ∧ (withStore { on.ss with cursorGame := some cursor }).ss.cursor .game = some cursor
    ∧ (flying on (.load .game) none false).storeInFlight ⟨.load .game, 131040, none⟩ false :=
  ⟨⟨⟨rfl, rfl, rfl⟩, rfl⟩, rfl, rfl, rfl, by decide, by decide, by decide, rfl, rfl, rfl, rfl, rfl, by decide⟩

/-- A verify of slot 0, at its first region. -/
def verifying : Verify :=
  { scope := .one 0, requesters := [(.game, 1)], rest := []
    current := some { slot := 0, serial := 3, chain := [16], length := 64, check := 0, region := 0, crc := 0 }
    checked := 0, damaged := 0 }

theorem witness_VerifyRuns : saved.takes .game .store ∧ scopeOf 0 0 = some (.one 0)
    ∧ (∀ slot ∈ (VerifyScope.one 0).slots saved.bl.cfg.ng, slot.val < saved.bl.cfg.ng)
    ∧ saved.ss.verify = none ∧ saved.ss.pendingVerify = none
    ∧ saved.ss.dir.firstValid ((VerifyScope.one 0).slots saved.bl.cfg.ng) = some ((0, 3, body), [])
    ∧ on.ss.dir.firstValid ((VerifyScope.one 0).slots on.bl.cfg.ng) = none
    ∧ (withStore { on.ss with verify := some verifying }).ss.verify = some verifying
    ∧ verifying.scope.covers 24 (.one 0) = true ∧ verifying.scope.covers 24 .all = false
    ∧ 4 ≤ (4#8 : Byte).toNat ∧ 32 ≤ (32#8 : Byte).toNat
    ∧ (flying on .verify none false).storeInFlight ⟨.verify, 131040, none⟩ false :=
  ⟨⟨⟨rfl, rfl, rfl⟩, rfl⟩, by decide, by decide, rfl, rfl, by decide, by decide, rfl, by decide, by decide,
    by decide, by decide, rfl, rfl, rfl, by decide⟩

theorem witness_MountReads : (withStore { on.ss with mount := some ⟨[], [], none⟩ }).ss.mount = some ⟨[], [], none⟩
    ∧ (flying on (.mountPage .b 63) none false).storeInFlight ⟨.mountPage .b 63, 131040, none⟩ false
    ∧ (flying on .mountScan none false).storeInFlight ⟨.mountScan, 131040, none⟩ false
    ∧ pageValid [] = false ∧ 1 ≤ (4294967295 : Nat)
    ∧ (let x : StoredSlot := ⟨.valid, 32768, 16, 0, 0, 0, 0, .game, false, 0⟩
       1 ≤ x.length ∧ x.length ≤ 32768)
    ∧ (let s := withStore { saved.ss with mount := some ⟨[], [], none⟩ }
       s.ss.dir.slots[(0 : Fin 32)].body = some body ∧ body.damaged = false ∧ s.ss.mount = some ⟨[], [], none⟩)
    ∧ (4294967295 : Nat) ≤ 4294967295 :=
  ⟨rfl, ⟨rfl, rfl, rfl, by decide⟩, ⟨rfl, rfl, rfl, by decide⟩, by decide, by decide, by decide,
    ⟨by decide, rfl, rfl⟩, by decide⟩

/-- A directory that a page can hold: one slot in use, the highest block. -/
def oneSaved : Directory :=
  { gen := 4294967295, dhw := 65535
    slots := Vector.ofFn fun i => if i = 31 then
      { serial := 65535, locked := true
        body := some { damaged := false, length := 256, check := 0, seconds := 0, day := 0, writer := .game
                       copiedFrom := none, chain := [511] } } else SlotEntry.initial }

theorem witness_storable : oneSaved.storable := by
  refine ⟨by decide, by decide, by decide, ?_, by decide +kernel, by decide +kernel⟩
  intro slot
  by_cases h : slot = 31
  · subst h
    refine ⟨by decide +kernel, ?_⟩
    intro b hb
    have : b = ⟨false, 256, 0, 0, 0, .game, none, [511]⟩ := by
      simpa [oneSaved] using hb.symm
    subst this
    exact ⟨by decide, by decide, by decide, by decide, by decide, by decide, by decide⟩
  · have : oneSaved.slots[slot] = SlotEntry.initial := by simp [oneSaved, h]
    rw [this]
    exact ⟨by decide, fun b hb => by cases hb⟩

/-- A log whose newest record is record 0, a SLOT_DAMAGED of slot 5. -/
def logged : FaultLog :=
  (FaultLog.initial.setRecord 0 ⟨true, .slotDamaged, .game, some 5, 0, 1⟩)

theorem witness_FaultTaken :
    ({ logged with overflow := true } : FaultLog).overflow = true
    ∧ (let fl := { logged with w := 1 }
       (∃ d : Fin 8, (0 : Fin 8) = fl.w - 1 - d ∧ fl.records[(0 : Fin 8)].valid = true
         ∧ ∀ e : Fin 8, e < d → fl.records[fl.w - 1 - e].valid = false)
       ∧ fl.records[(0 : Fin 8)].kind = .slotDamaged ∧ fl.records[(0 : Fin 8)].subject = some 5)
    ∧ logged.records[logged.w].valid = true ∧ FaultLog.initial.records[FaultLog.initial.w].valid = false := by
  decide +kernel

theorem witness_FaultRequests : on.takes .game .running ∧ on.takes .system .running ∧ 8 ≤ (8#8 : Byte).toNat
    ∧ (7#8 : Byte).toNat = (7 : Fin 8).val := ⟨on_takes _ _, on_takes _ _, by decide, rfl⟩

/-! Supply, start-up and reset -/

theorem witness_PowerAndConfig : State.reset.powered = false ∧ State.reset.bd.marker = true
    ∧ (let s := { on with pma := { on.pma with inFlight := some (.boot 1 false) } }
       s.powered = true ∧ s.pma.inFlight = some (.boot 1 false))
    ∧ { on with pma := { on.pma with inFlight := some (.boot 1 true) } }.pma.inFlight = some (.boot 1 true)
    ∧ clampedCount builtIn = 0 := by decide

theorem witness_ResetAndSupply : on.powered = true
    ∧ (let s := flying (paging 1 false) (.page 63) none false
       s.pma.inFlight = some (.store ⟨.page 63, 131040, none⟩ false))
    ∧ (let s := flying on (.load .game) none false
       s.pma.inFlight = some (.store ⟨.load .game, 131040, none⟩ false) ∧ ∀ i : Fin 64, OpOwner.load .game ≠ .page i)
    ∧ (let s := { on with pma := { on.pma with inFlight := some (.fetch 15 0 32) } }
       s.powered = true ∧ s.pma.inFlight = some (.fetch 15 0 32))
    ∧ (let s := { on with pma := { on.pma with inFlight := some (.boot 0 false) } }
       s.powered = true ∧ s.pma.inFlight = some (.boot 0 false))
    ∧ (let s := { on with bl := { on.bl with phase := .held } }
       s.bl.phase = .held ∧ s.ss.pageWrite = none)
    ∧ (paging 64 true).ss.pageWrite.isSome = true ∧ State.reset.bm.supply = .batteryHold
    ∧ { State.reset with bm := { State.reset.bm with supply := .batteryLost } }.bm.supply = .batteryLost
    ∧ requestCommand .game 0 .storeInfo = some (.storeInfo .game 0)
    ∧ (Memory.wf sramBlank (paging 63 false).sram
      ∧ (paging 63 false).ss.pageWrite = some (pageWriteOf 63 false) ∧ (pageWriteOf 63 false).left < 64) := by
  decide

/-! ## Single steps -/

/-- R71: the stale timer's end turns the drive off, with the carrier run on by as many counts. -/
theorem test_stale_runs_carrier :
    (match exec .staleTimerExpiry (driving { on.rd with state := .fwd, carrier := 818, staleTimer := 3 }) with
      | .next t => t.rd.carrier == 2 && t.rd.stale && t.rd.state == .coast
      | _ => false) = true := by decide +kernel

/-- R57 at carrier = Pc - 1, and log entry 33 at carrier = Pc and above: the next count begins a period, which takes
up the pending result. -/
theorem test_carrier_returns :
    ([818, 819, 2046].all fun carrier =>
      match exec .carrierPeriodStart (driving { on.rd with carrier := carrier, pending := some (.fwd, 300) }) with
      | .next t => t.rd.carrier == 0 && t.rd.driven == .fwd && t.rd.legA.high && t.rd.legB.low
          && t.rd.staleTimer + 1 == on.rd.staleTimer
      | _ => false) = true := by decide +kernel

/-- R35, R53: a mark left by an earlier use of voice 0 is gone when the number is KEYED again. -/
theorem test_allocate_clears_mark :
    (match exec (.voiceStart .game 1 start)
        { on with mx := { on.mx with marks := Vector.replicate 16 true } } with
      | .next t => t.voices[(0 : Fin 16)].state == .keyed && !t.mx.marks[(0 : Fin 16)]
      | _ => false) = true := by decide +kernel

/-- R166: with eight bytes that come in, eight of the nine bytes of a waiting reply's frame go out; the ninth ends
it, and the tenth begins the frame of the notice behind it. -/
theorem test_link_both_ways :
    (match exec (.requestFrame (List.replicate 8 0)) (linkHolding 0 1),
      exec (.requestFrame (List.replicate 10 0)) (linkHolding 0 1) with
      | .next t, .next u => t.sys.sent == 8 && t.sys.q.replies.length == 1 && u.sys.sent == 1
        && u.sys.q.replies.isEmpty && u.sys.q.notices.length == 1
      | _, _ => false) = true := by decide +kernel

/-- R166: a frame of which three bytes have gone out is cut off at a console reset. -/
theorem test_reset_cuts_frame :
    (match exec .consoleReset { linkHolding 0 1 with sys := { (linkHolding 0 1).sys with sent := 3 } } with
      | .next t => t.linkOut == [0xA5, 0x02, 0x05]
      | _ => false) = true := by decide +kernel

/-- R156: the first step that runs anything after reset, the console power-up, opens the write gate. -/
theorem test_powerUp_opens_gate :
    (match step { State.reset with pending := [.consolePowerUp false] } with
      | .next t => t.bd.gateOpen && t.bl.phase == .loading && t.fl.records[(0 : Fin 8)].valid
      | _ => false) = true := by decide +kernel

/-- 11.4: SAVE_OPEN on the empty store, taken at once, replies with three blocks. -/
theorem test_saveOpen_replies :
    (match exec (.saveOpen .game 7 2 600) on with
      | .next t => t.game.q.replies == [(0, ⟨0x32, 7, .ok, [3]⟩)]
      | _ => false) = true := by decide +kernel

end Sys2Proof.Tests
end

section
/-! SUPPORT. The voice pool as a step sees it: the voice records with the age list, which of the machine's operations
leave them alone, and the operations of chapter 1 that change them and keep them sound (R2, R53). -/

namespace Sys2Proof.Machine

/-! ## The pool of a state -/

/-- What the pool invariant speaks of: the voice records and the age list (R2). -/
def State.pool (s : State) : Vector Voice 16 × List (Fin 16) := (s.voices, s.age)

@[simp] theorem State.pool_mk (vs ag mx ch pma rd bd gc ss fl bm bl game sys rom sram bus out free pend) :
    State.pool ⟨vs, ag, mx, ch, pma, rd, bd, gc, ss, fl, bm, bl, game, sys, rom, sram, bus, out, free,
      pend⟩ = (vs, ag) := rfl

@[simp] theorem State.voices_age_pool (s : State) : (s.voices, s.age) = s.pool := rfl

@[simp] theorem State.pool_ite (c : Prop) [Decidable c] (s t : State) :
    (if c then s else t).pool = if c then s.pool else t.pool := apply_ite State.pool c s t

/-- The invariant rests on the pool alone. -/
theorem poolSafe_of_pool {s t : State} (h : t.pool = s.pool) (hs : s.poolSafe) : t.poolSafe := by
  obtain ⟨hv, ha⟩ := Prod.mk.inj h
  unfold State.poolSafe
  rw [hv, ha]
  exact hs

/-! ## Operations that leave the pool alone: ports and faults -/

@[simp] theorem State.setQueues_pool (s : State) (m : Master) (q : Queues) :
    (s.setQueues m q).pool = s.pool := by cases m <;> rfl

@[simp] theorem State.reply_pool (s : State) (m : Master) (r : Reply) : (s.reply m r).pool = s.pool :=
  s.setQueues_pool m _

@[simp] theorem State.answer_pool (s : State) (a : Ask) (c : Code) (r : List Byte) :
    (s.answer a c r).pool = s.pool := s.reply_pool a.m _

@[simp] theorem State.refuse_pool (s : State) (a : Ask) (c : Code) : (s.refuse a c).pool = s.pool :=
  s.answer_pool a c []

@[simp] theorem State.post_pool (s : State) (m : Master) (n : Notice) : (s.post m n).pool = s.pool :=
  s.setQueues_pool m _

@[simp] theorem State.postBoth_pool (s : State) (n : Notice) : (s.postBoth n).pool = s.pool := by
  simp [State.postBoth]

@[simp] theorem State.reserveSlot_pool (s : State) (m : Master) : (s.reserveSlot m).pool = s.pool :=
  s.setQueues_pool m _

@[simp] theorem State.setRequests_pool (s : State) (m : Master) (rs : List Request) :
    (s.setRequests m rs).pool = s.pool := s.setQueues_pool m _

@[simp] theorem State.setStore_pool (s : State) (ss : Store) : (s.setStore ss).pool = s.pool := rfl

@[simp] theorem State.setChannel_pool (s : State) (v : Fin 16) (c : Channel) :
    (s.setChannel v c).pool = s.pool := rfl

@[simp] theorem State.busFree_pool (s : State) : s.busFree.pool = s.pool := rfl

@[simp] theorem State.pushOps_pool (s : State) (ops : List StoreOp) : (s.pushOps ops).pool = s.pool := rfl

@[simp] theorem State.draw_pool (s : State) : s.draw.2.pool = s.pool := rfl

@[simp] theorem State.postFault_pool (s : State) (k : FaultKind) (c : Concerned) (x : Option Nat) :
    (s.postFault k c x).pool = s.pool := by
  obtain ⟨fl, g, y, h⟩ := postFault_frame s k c x
  simp [h]

@[simp] theorem State.denyRight_pool (s : State) (a : Ask) (x : Option Nat) :
    (s.denyRight a x).pool = s.pool := by simp [State.denyRight]

@[simp] theorem State.slotDamaged_pool (s : State) (slot : Fin 32) : (s.slotDamaged slot).pool = s.pool := by
  simp [State.slotDamaged]

@[simp] theorem State.clearReply_pool (s : State) (a : Ask) (fl : FaultLog) (n : Nat) :
    (s.clearReply a fl n).pool = s.pool := by simp [State.clearReply]

@[simp] theorem jobFaultRead_pool (a : Ask) (i : Byte) (s : State) : (jobFaultRead a i s).pool = s.pool := by
  unfold jobFaultRead; split <;> simp

@[simp] theorem jobFaultClearIndex_pool (a : Ask) (i : Byte) (s : State) :
    (jobFaultClearIndex a i s).pool = s.pool := by unfold jobFaultClearIndex; split <;> simp

@[simp] theorem jobFaultClearAllMine_pool (a : Ask) (s : State) : (jobFaultClearAllMine a s).pool = s.pool := by
  simp [jobFaultClearAllMine]

@[simp] theorem jobFaultClearOverflow_pool (a : Ask) (s : State) :
    (jobFaultClearOverflow a s).pool = s.pool := by simp [jobFaultClearOverflow]

/-! ## The rumble driver -/

@[simp] theorem State.postMotor_pool (s : State) (x : MotorReason) : (s.postMotor x).pool = s.pool :=
  s.postBoth_pool _

@[simp] theorem State.runClock_pool (s : State) (n : Nat) : (s.runClock n).pool = s.pool := by
  obtain ⟨r, g, y, h⟩ := runClock_frame s n
  simp [h]

@[simp] theorem State.latchCutoff_pool (s : State) (x : MotorReason) : (s.latchCutoff x).pool = s.pool := by
  simp [State.latchCutoff]

@[simp] theorem State.cutoffLevel_pool (s : State) (b : Bool) : (s.cutoffLevel b).pool = s.pool := by
  simp [State.cutoffLevel, State.cutoffChanged]

@[simp] theorem State.rumbleTick_pool (s : State) : s.rumbleTick.pool = s.pool := by
  obtain ⟨r, fl, g, y, h⟩ := rumbleTick_frame s
  simp [h]

@[simp] theorem State.rumbleLoad_pool (s : State) : s.rumbleLoad.pool = s.pool := by
  simp [State.rumbleLoad]

@[simp] theorem jobRumbleResume_pool (a : Ask) (s : State) : (jobRumbleResume a s).pool = s.pool := by
  simp [jobRumbleResume]

@[simp] theorem jobRumbleEnable_pool (a : Ask) (on : Bool) (s : State) :
    (jobRumbleEnable a on s).pool = s.pool := by simp [jobRumbleEnable]

@[simp] theorem jobRumbleStrength_pool (a : Ask) (x : Word) (s : State) :
    (jobRumbleStrength a x s).pool = s.pool := by simp [jobRumbleStrength]

@[simp] theorem jobRumbleStatus_pool (a : Ask) (s : State) : (jobRumbleStatus a s).pool = s.pool :=
  s.answer_pool a _ _

/-! ## The bus, the mix requests and the game clock -/

@[simp] theorem State.arbitrate_pool (s : State) : s.arbitrate.pool = s.pool := by
  obtain ⟨ch, p, ops, n, h⟩ := arbitrate_frame s
  simp [h]

@[simp] theorem jobMixLevel_pool (a : Ask) (l : Option Word) (c : Bool) (s : State) :
    (jobMixLevel a l c s).pool = s.pool := by simp [jobMixLevel]

@[simp] theorem jobDuckSet_pool (a : Ask) (f : Word) (s : State) : (jobDuckSet a f s).pool = s.pool := by
  simp [jobDuckSet]

@[simp] theorem State.checkBattery_pool (s : State) (weak : Bool) : (s.checkBattery weak).pool = s.pool := by
  obtain ⟨bm, fl, g, y, h⟩ := checkBattery_frame s weak
  simp [h]

@[simp] theorem State.powerUpCheck_pool (s : State) (weak : Bool) : (s.powerUpCheck weak).pool = s.pool := by
  simp [State.powerUpCheck]

@[simp] theorem State.evaluateDay_pool (s : State) : s.evaluateDay.pool = s.pool := by
  obtain ⟨g, y, h⟩ := evaluateDay_frame s
  simp [h]

@[simp] theorem State.handOverDay_pool (s : State) (d : Nat) : (s.handOverDay d).pool = s.pool := by
  simp [State.handOverDay]

@[simp] theorem State.endRateCheck_pool (s : State) (c : Code) (r : List Byte) :
    (s.endRateCheck c r).pool = s.pool := by simp [State.endRateCheck]

@[simp] theorem State.rateTicks_pool (s : State) (n : Nat) : (s.rateTicks n).pool = s.pool := by
  simp [State.rateTicks]

@[simp] theorem State.secondBoundary_pool (s : State) (weak : Bool) :
    (s.secondBoundary weak).pool = s.pool := by
  obtain ⟨bd, bm, fl, g, y, h⟩ := secondBoundary_frame s weak
  simp [h]

@[simp] theorem State.toSecond_pool (s : State) (weak : Bool) : (s.toSecond weak).pool = s.pool := by
  simp [State.toSecond]

@[simp] theorem State.toSeconds_pool (n : Nat) (weak : Bool) (s : State) :
    (State.toSeconds n weak s).pool = s.pool := by
  induction n generalizing s with
  | zero => exact s.toSecond_pool weak
  | succ n ih => rw [State.toSeconds, ih, State.toSecond_pool]

@[simp] theorem State.passTicks_pool (fuel n : Nat) (s : State) :
    (State.passTicks fuel n s).pool = s.pool := by
  induction fuel generalizing n s with
  | zero => rfl
  | succ fuel ih => simp [State.passTicks, ih]

@[simp] theorem jobClockRead_pool (a : Ask) (s : State) : (jobClockRead a s).pool = s.pool :=
  s.answer_pool a _ _

@[simp] theorem jobClockSet_pool (a : Ask) (d : ClockFields) (s : State) :
    (jobClockSet a d s).pool = s.pool := by simp [jobClockSet]

@[simp] theorem jobZoneSet_pool (a : Ask) (z : Byte) (s : State) : (jobZoneSet a z s).pool = s.pool := by
  simp [jobZoneSet]

@[simp] theorem jobTrimSet_pool (a : Ask) (t : Word) (s : State) : (jobTrimSet a t s).pool = s.pool := by
  simp [jobTrimSet]

@[simp] theorem jobRateCheck_pool (a : Ask) (n : Word) (s : State) : (jobRateCheck a n s).pool = s.pool := by
  simp [jobRateCheck]

/-! ## The store -/

@[simp] theorem State.writeOut_pool (s : State) (op : StoreOp) : (s.writeOut op).pool = s.pool := by
  unfold State.writeOut; split <;> simp

@[simp] theorem State.beginPage_pool (s : State) (p : PageId) (d : Directory) (e : Option Entry)
    (l : List Nat) : (s.beginPage p d e l).pool = s.pool := rfl

@[simp] theorem State.turns_pool (es : List Entry) (s : State) : (State.turns es s).pool = s.pool := by
  obtain ⟨ss, g, y, h⟩ := turns_frame es s
  simp [h]

@[simp] theorem State.takeTurns_pool (s : State) : s.takeTurns.pool = s.pool := State.turns_pool _ s

@[simp] theorem State.appendEntry_pool (s : State) (e : Entry) : (s.appendEntry e).pool = s.pool :=
  State.takeTurns_pool _

@[simp] theorem State.completeMount_pool (s : State) : s.completeMount.pool = s.pool := by
  simp [State.completeMount]

@[simp] theorem State.pageBurst_pool (s : State) : s.pageBurst.pool = s.pool := by
  unfold State.pageBurst
  split
  · rfl
  · next w _ =>
    have written : (s.pageWritten w).pool = s.pool := by
      unfold State.pageWritten State.endOrphan State.commitFormat State.commitEntry
      cases w.entry <;> simp
    simp [written]

@[simp] theorem State.startMount_pool (s : State) : s.startMount.pool = s.pool := rfl

@[simp] theorem State.markSlot_pool (s : State) (slot : Fin 32) : (s.markSlot slot).pool = s.pool := by
  simp [State.markSlot]

@[simp] theorem State.scanFrom_pool (slots : List (Fin 32)) (s : State) :
    (State.scanFrom slots s).pool = s.pool := by
  induction slots generalizing s with
  | nil => exact s.completeMount_pool
  | cons slot rest ih => unfold State.scanFrom; split <;> simp [ih, State.beginScan]

@[simp] theorem State.checkSlot_pool (page : List Byte) (acc : State × List Nat) (slot : Fin 32) :
    (State.checkSlot page acc slot).1.pool = acc.1.pool := by
  unfold State.checkSlot; dsimp only; split <;> simp

theorem State.checkSlots_pool (page : List Byte) (slots : List (Fin 32)) (acc : State × List Nat) :
    (slots.foldl (State.checkSlot page) acc).1.pool = acc.1.pool := by
  induction slots generalizing acc with
  | nil => rfl
  | cons slot rest ih => rw [List.foldl_cons, ih, State.checkSlot_pool]

@[simp] theorem State.scanOrComplete_pool (s : State) : s.scanOrComplete.pool = s.pool := by
  simp [State.scanOrComplete]

@[simp] theorem State.mountOn_pool (s : State) (p : PageId) (page : List Byte) (r : MountResult) :
    (s.mountOn p page r).pool = s.pool := by
  rw [State.mountOn, State.scanOrComplete_pool, State.buildFrom, State.checkSlots_pool]
  rfl

@[simp] theorem State.testPages_pool (s : State) (pa pb : List Byte) : (s.testPages pa pb).pool = s.pool := by
  simp [State.testPages, State.directoryDamaged, State.format]

@[simp] theorem State.pageArrives_pool (s : State) (m : Mount) (p : PageId) (i : Nat) (bytes : List Byte) :
    (s.pageArrives m p i bytes).pool = s.pool := by cases p <;> simp [State.pageArrives]

@[simp] theorem State.scanArrives_pool (s : State) (m : Mount) (sc : Scan) (bytes : List Byte) :
    (s.scanArrives m sc bytes).pool = s.pool := by simp [State.scanArrives]

@[simp] theorem State.mountArrives_pool (op : StoreOp) (bytes : List Byte) (s : State) :
    (State.mountArrives op bytes s).pool = s.pool := by
  unfold State.mountArrives
  split
  · simp
  · split <;> simp
  · rfl

/-! ## The operations on saves -/

/-- A request that names a slot keeps the pool where what it does with the slot keeps it. -/
theorem withSlot_pool {a : Ask} {b : Byte} {right : Fin 32 → Bool} {s : State} {act : Fin 32 → State}
    (h : ∀ slot, (act slot).pool = s.pool) : (withSlot a b right s act).pool = s.pool := by
  unfold withSlot; split <;> simp [h]

@[simp] theorem jobStoreInfo_pool (a : Ask) (s : State) : (jobStoreInfo a s).pool = s.pool :=
  s.answer_pool a _ _

@[simp] theorem jobSlotInfo_pool (a : Ask) (b : Byte) (s : State) : (jobSlotInfo a b s).pool = s.pool :=
  withSlot_pool fun _ => s.answer_pool a _ _

@[simp] theorem State.mismatch_pool (s : State) (slot : Fin 32) (n : Nat) :
    (s.mismatch slot n).pool = s.pool := by simp [State.mismatch]

@[simp] theorem jobSaveOpen_pool (a : Ask) (b : Byte) (l : Word) (s : State) :
    (jobSaveOpen a b l s).pool = s.pool := withSlot_pool fun _ => by simp

@[simp] theorem jobSaveData_pool (a : Ask) (bytes : List Byte) (s : State) :
    (jobSaveData a bytes s).pool = s.pool := by unfold jobSaveData; split <;> simp

@[simp] theorem State.dataWritten_pool (op : StoreOp) (bytes : List Byte) (s : State) :
    (State.dataWritten op bytes s).pool = s.pool := by unfold State.dataWritten; split <;> simp

@[simp] theorem jobSaveCommit_pool (a : Ask) (s : State) : (jobSaveCommit a s).pool = s.pool := by
  unfold jobSaveCommit
  split
  · simp
  · split <;> simp

@[simp] theorem State.endTxn_pool (s : State) (m : Master) : (s.endTxn m).pool = s.pool := by
  obtain ⟨ss, p, g, y, h⟩ := endTxn_frame s m
  simp [h]

@[simp] theorem jobSaveAbort_pool (a : Ask) (s : State) : (jobSaveAbort a s).pool = s.pool := by
  unfold jobSaveAbort; split <;> simp

@[simp] theorem State.overtake_pool (s : State) (m : Master) (slot : Fin 32) (x : LostReason) :
    (s.overtake m slot x).pool = s.pool := by simp [State.overtake]

@[simp] theorem jobSlotErase_pool (a : Ask) (b : Byte) (s : State) : (jobSlotErase a b s).pool = s.pool :=
  withSlot_pool fun _ => by simp

@[simp] theorem jobSlotLock_pool (a : Ask) (b : Byte) (on : Bool) (s : State) :
    (jobSlotLock a b on s).pool = s.pool := withSlot_pool fun _ => by simp

@[simp] theorem jobSlotCopy_pool (a : Ask) (x y : Byte) (s : State) : (jobSlotCopy a x y s).pool = s.pool := by
  have checked : ∀ src dst, (copyChecked a src dst s).pool = s.pool := by
    intro src dst
    unfold copyChecked State.startCopy
    cases s.ss.dir.slots[src].body <;> simp
  unfold jobSlotCopy
  split <;> simp [checked]

@[simp] theorem State.copyArrives_pool (op : StoreOp) (bytes : List Byte) (s : State) :
    (State.copyArrives op bytes s).pool = s.pool := by
  unfold State.copyArrives; split <;> simp [State.copyDamaged]

@[simp] theorem State.copyWritten_pool (op : StoreOp) (bytes : List Byte) (s : State) :
    (State.copyWritten op bytes s).pool = s.pool := by unfold State.copyWritten; split <;> simp

@[simp] theorem State.closeCursor_pool (s : State) (m : Master) : (s.closeCursor m).pool = s.pool := by
  obtain ⟨ss, p, g, y, h⟩ := closeCursor_frame s m
  simp [h]

@[simp] theorem jobLoadOpen_pool (a : Ask) (b : Byte) (s : State) : (jobLoadOpen a b s).pool = s.pool :=
  withSlot_pool fun _ => by dsimp only; split <;> simp

@[simp] theorem jobLoadData_pool (a : Ask) (n : Byte) (s : State) : (jobLoadData a n s).pool = s.pool := by
  unfold jobLoadData
  split
  · simp
  · split <;> simp [State.acceptLoad]

@[simp] theorem State.loadArrives_pool (op : StoreOp) (bytes : List Byte) (s : State) :
    (State.loadArrives op bytes s).pool = s.pool := by
  unfold State.loadArrives
  split
  · split
    · rfl
    · split <;> simp [State.finishLoad]
  · rfl

@[simp] theorem jobLoadClose_pool (a : Ask) (s : State) : (jobLoadClose a s).pool = s.pool := by
  simp [jobLoadClose]

@[simp] theorem State.advanceVerify_pool (n : Nat) (s : State) :
    (State.advanceVerify n s).pool = s.pool := by
  obtain ⟨ss, g, y, h⟩ := advanceVerify_frame n s
  simp [h]

@[simp] theorem jobStoreVerify_pool (a : Ask) (x y : Byte) (s : State) :
    (jobStoreVerify a x y s).pool = s.pool := by
  have placed : ∀ sc, (s.placeVerify a sc).pool = s.pool := by
    intro sc
    unfold State.placeVerify
    cases s.ss.verify with
    | none => simp
    | some v => cases s.ss.pendingVerify <;> simp
  unfold jobStoreVerify
  split <;> simp [placed]

@[simp] theorem State.verifyArrives_pool (op : StoreOp) (bytes : List Byte) (s : State) :
    (State.verifyArrives op bytes s).pool = s.pool := by
  unfold State.verifyArrives
  split
  · rfl
  · split <;> simp [State.verifyDone]

/-! ## Start-up and supply -/

@[simp] theorem State.configArrives_pool (s : State) (i : Nat) (bytes : List Byte) :
    (s.configArrives i bytes).pool = s.pool := by
  simp [State.configArrives, State.handOut, State.checkConfig]

@[simp] theorem State.cutBurst_pool (s : State) : s.cutBurst.pool = s.pool := by
  unfold State.cutBurst
  split
  · split <;> simp
  · rfl

@[simp] theorem State.tearPage_pool (s : State) : s.tearPage.pool = s.pool := by
  unfold State.tearPage; split <;> simp

@[simp] theorem State.cutWrites_pool (s : State) : s.cutWrites.pool = s.pool := by
  simp [State.cutWrites]

@[simp] theorem jobPartInfo_pool (a : Ask) (c : Bool) (s : State) : (jobPartInfo a c s).pool = s.pool := by
  simp [jobPartInfo]

end Sys2Proof.Machine
end

section
/-! SUPPORT. The operations that change the voice pool, each of which keeps it sound (R2, R53), and with them every
command. -/

namespace Sys2Proof.Machine

/-! ## A replaced element, in the form that `simp` gives an index -/

@[simp] theorem putAt_val_same {α : Type} {n : Nat} (xs : Vector α n) (i : Fin n) (x : α) :
    (putAt xs i x)[i.val] = x := putAt_same xs i x

theorem putAt_val_other {α : Type} {n : Nat} (xs : Vector α n) (i j : Fin n) (x : α) (h : i ≠ j) :
    (putAt xs i x)[j.val] = xs[j.val] := putAt_other xs i j x h

/-! ## Ending, allocating and changing a voice -/

/-- The pool is sound but for the starve count of one voice, which may have reached its third tick (R53, R54). -/
def State.poolSafeBut (s : State) (v : Fin 16) : Prop :=
  s.age.Nodup ∧ (∀ w, w ∈ s.age ↔ s.voices[w].inUse = true)
    ∧ ∀ w : Fin 16, w ≠ v → s.voices[w].inUse = true → s.voices[w].starve ≤ 2

theorem poolSafeBut_of_poolSafe {s : State} (v : Fin 16) (h : s.poolSafe) : s.poolSafeBut v := by
  obtain ⟨hn, hm, hs⟩ := h
  exact ⟨hn, hm, fun w _ => hs w⟩

/-- A voice whose starve count has not reached its third tick is no exception. -/
theorem poolSafe_of_poolSafeBut {s : State} {v : Fin 16} (h : s.poolSafeBut v) (hv : s.voices[v].starve ≤ 2) :
    s.poolSafe := by
  obtain ⟨hn, hm, hs⟩ := h
  refine ⟨hn, hm, fun w hw => ?_⟩
  by_cases hwv : w = v
  · subst hwv; exact hv
  · exact hs w hwv hw

/-- A voice record replaced by one that is in use as it was leaves the age list right (R2). -/
theorem setVoice_poolSafeBut {s : State} {v : Fin 16} {x : Voice} (h : s.poolSafeBut v)
    (hu : x.inUse = s.voices[v].inUse) : (s.setVoice v x).poolSafeBut v := by
  obtain ⟨hn, hm, hs⟩ := h
  refine ⟨hn, fun w => ?_, fun w hw => ?_⟩
  · by_cases hwv : w = v
    · subst hwv; simpa [hu] using hm w
    · simpa [putAt_val_other _ _ _ _ (Ne.symm hwv)] using hm w
  · simpa [putAt_val_other _ _ _ _ (Ne.symm hw)] using hs w hw

theorem setVoice_poolSafe {s : State} {v : Fin 16} {x : Voice} (h : s.poolSafe)
    (hu : x.inUse = s.voices[v].inUse) (hx : x.starve = s.voices[v].starve ∨ x.starve ≤ 2) :
    (s.setVoice v x).poolSafe := by
  obtain ⟨hn, hm, hs⟩ := h
  refine ⟨hn, (setVoice_poolSafeBut (poolSafeBut_of_poolSafe v ⟨hn, hm, hs⟩) hu).2.1, fun w hw => ?_⟩
  by_cases hwv : w = v
  · subst hwv
    rw [State.setVoice_voices, putAt_same] at hw ⊢
    rcases hx with hx | hx
    · exact hx ▸ hs w (hu ▸ hw)
    · exact hx
  · rw [State.setVoice_voices, putAt_other _ _ _ _ (Ne.symm hwv)] at hw ⊢
    exact hs w hw

/-- A voice that ends leaves the age list as it becomes FREE, whatever its starve count was (R18). -/
theorem endVoice_poolSafe {s : State} {v : Fin 16} (r : EndReason) (h : s.poolSafeBut v) :
    (s.endVoice v r).poolSafe := by
  obtain ⟨hn, hm, hs⟩ := h
  have freed : (s.freeVoice v r).poolSafe := by
    refine ⟨hn.filter _, fun w => ?_, fun w => ?_⟩
    · by_cases hwv : w = v
      · subst hwv; simp [State.freeVoice, Voice.ended, Voice.inUse]
      · simpa [State.freeVoice, putAt_val_other _ _ _ _ (Ne.symm hwv), hwv] using hm w
    · by_cases hwv : w = v
      · subst hwv; simp [State.freeVoice, Voice.ended]
      · simpa [State.freeVoice, putAt_val_other _ _ _ _ (Ne.symm hwv)] using hs w hwv
  exact poolSafe_of_pool (by simp [State.endVoice]) freed

/-- A FREE voice that is allocated enters the age list once, at its end (R2, R10). -/
theorem allocate_poolSafe {s : State} {v : Fin 16} (m : Master) (p : VoiceStart) (h : s.poolSafe)
    (hv : s.voices[v].inUse = false) : (s.allocate m p v).poolSafe := by
  obtain ⟨hn, hm, hs⟩ := h
  have absent : v ∉ s.age := fun hin => by rw [hm v, hv] at hin; cases hin
  rw [allocate_frame]
  refine ⟨List.nodup_append.2 ⟨hn, List.pairwise_singleton _ v, ?_⟩, fun w => ?_, fun w => ?_⟩
  · rintro a ha b hb rfl
    exact absent (List.mem_singleton.1 hb ▸ ha)
  · by_cases hwv : w = v
    · subst hwv; simp [Voice.allocated, Voice.inUse]
    · simpa [putAt_val_other _ _ _ _ (Ne.symm hwv), hwv] using hm w
  · by_cases hwv : w = v
    · subst hwv; simp [Voice.allocated]
    · simpa [putAt_val_other _ _ _ _ (Ne.symm hwv)] using hs w

/-! ## The voice requests -/

/-- The voice that VOICE_START finds first is FREE (R6). -/
theorem firstFree_free {s : State} {v : Fin 16} (h : s.firstFree = some v) : s.voices[v].inUse = false := by
  simpa using List.find?_some h

/-- A voice that has ended is FREE. -/
theorem endVoice_free (s : State) (v : Fin 16) (r : EndReason) : (s.endVoice v r).voices[v].inUse = false := by
  unfold State.endVoice
  dsimp only
  split <;> simp [State.freeVoice, Voice.ended, Voice.inUse]

theorem jobVoiceStart_poolSafe {s : State} (a : Ask) (p : VoiceStart) (h : s.poolSafe) :
    (jobVoiceStart a p s).poolSafe := by
  unfold jobVoiceStart
  split
  · split
    · next v hv => exact poolSafe_of_pool (by simp) (allocate_poolSafe a.m p h (firstFree_free hv))
    · split
      · next v _ =>
        have ended : (s.endVoice v .stolen).poolSafe := endVoice_poolSafe _ (poolSafeBut_of_poolSafe v h)
        exact poolSafe_of_pool (by simp) (allocate_poolSafe a.m p ended (endVoice_free s v _))
      · exact poolSafe_of_pool (by simp) h
  · exact poolSafe_of_pool (by simp) h

/-- A request that names a voice keeps the pool sound where what it does with that voice, then in use, does. -/
theorem withHandle_poolSafe {s : State} {a : Ask} {b : Byte} {act : Fin 16 → State} (h : s.poolSafe)
    (ha : s.voices[handleVoice b].inUse = true → (act (handleVoice b)).poolSafe) :
    (withHandle a b s act).poolSafe := by
  unfold withHandle
  dsimp only
  split
  · exact poolSafe_of_pool (by simp) h
  · next hstale =>
    split
    · exact poolSafe_of_pool (by simp) h
    · exact ha (by simp_all [Voice.inUse])

theorem jobVoiceSet_poolSafe {s : State} (a : Ask) (p : VoiceSet) (h : s.poolSafe) :
    (jobVoiceSet a p s).poolSafe := by
  refine withHandle_poolSafe h fun _ => ?_
  split
  · exact poolSafe_of_pool (State.answer_pool _ _ _ _)
      (setVoice_poolSafe (v := handleVoice p.handle) h rfl (.inl rfl))
  · exact poolSafe_of_pool (by simp) h

theorem jobVoiceRelease_poolSafe {s : State} (a : Ask) (b : Byte) (h : s.poolSafe) :
    (jobVoiceRelease a b s).poolSafe := by
  refine withHandle_poolSafe h fun hu => ?_
  split
  · exact poolSafe_of_pool (State.answer_pool _ _ _ _) (setVoice_poolSafe h hu.symm (.inl rfl))
  · exact poolSafe_of_pool (State.answer_pool _ _ _ _)
      (endVoice_poolSafe .released (poolSafeBut_of_poolSafe _ h))
  · exact poolSafe_of_pool (by simp) h

theorem jobVoiceStop_poolSafe {s : State} (a : Ask) (b : Byte) (h : s.poolSafe) :
    (jobVoiceStop a b s).poolSafe :=
  withHandle_poolSafe h fun _ =>
    poolSafe_of_pool (State.answer_pool _ _ _ _) (endVoice_poolSafe .stopped (poolSafeBut_of_poolSafe _ h))

theorem jobVoiceQuery_poolSafe {s : State} (a : Ask) (b : Byte) (h : s.poolSafe) :
    (jobVoiceQuery a b s).poolSafe := poolSafe_of_pool (by simp [jobVoiceQuery]) h

/-- Every job keeps the pool sound: those of the five voice requests by the lemmas above, the others by leaving it
alone. -/
theorem runJob_poolSafe {s : State} (a : Ask) (q : Req) (h : s.poolSafe) : (runJob a q s).poolSafe := by
  cases q with
  | voiceStart p => exact jobVoiceStart_poolSafe a p h
  | voiceSet p => exact jobVoiceSet_poolSafe a p h
  | voiceRelease b => exact jobVoiceRelease_poolSafe a b h
  | voiceStop b => exact jobVoiceStop_poolSafe a b h
  | voiceQuery b => exact jobVoiceQuery_poolSafe a b h
  | _ => exact poolSafe_of_pool (by simp [runJob]) h

/-! ## The ports -/

theorem takeReq_poolSafe {s : State} (m : Master) (tag : Byte) (q : Req) (h : s.poolSafe) :
    (s.takeReq m tag q).poolSafe := by
  unfold State.takeReq
  split
  · exact runJob_poolSafe _ q h
  · exact poolSafe_of_pool (by simp) h

theorem handOver_poolSafe {s : State} (m : Master) (r : Request) (h : s.poolSafe) :
    (s.handOver m r).poolSafe := by
  unfold State.handOver
  split
  · exact poolSafe_of_pool (by simp) h
  · exact takeReq_poolSafe m r.tag _ (poolSafe_of_pool (by simp) h)

theorem drain_poolSafe (m : Master) (n : Nat) {s : State} (h : s.poolSafe) : (State.drain m n s).poolSafe := by
  induction n generalizing s with
  | zero => exact h
  | succ n ih =>
    unfold State.drain
    split
    · exact h
    · split
      · exact ih (handOver_poolSafe m _ (poolSafe_of_pool (by simp) h))
      · exact h

theorem drainAll_poolSafe {s : State} (m : Master) (h : s.poolSafe) : (s.drainAll m).poolSafe :=
  drain_poolSafe m _ h

theorem enqueue_poolSafe {s : State} (m : Master) (r : Request) (h : s.poolSafe) :
    (s.enqueue m r).poolSafe := drainAll_poolSafe m (poolSafe_of_pool (by simp) h)

theorem arriveRaw_poolSafe {s : State} (m : Master) (r : Request) (h : s.poolSafe) :
    (s.arriveRaw m r).poolSafe := by
  unfold State.arriveRaw
  split
  · exact enqueue_poolSafe m r h
  · exact poolSafe_of_pool (by cases m <;> simp [State.noPlace]) h

theorem arrive_poolSafe {s : State} (m : Master) (tag : Byte) (q : Req) (h : s.poolSafe) :
    (s.arrive m tag q).poolSafe := by
  unfold State.arrive
  split
  · exact takeReq_poolSafe m tag q (poolSafe_of_pool (by simp) h)
  · exact arriveRaw_poolSafe m _ h

theorem assemble_poolSafe {s : State} (ws : List Word) (h : s.poolSafe) : (s.assemble ws).poolSafe := by
  unfold State.assemble
  split
  · exact enqueue_poolSafe .game _ (poolSafe_of_pool (by simp) h)
  · exact poolSafe_of_pool (by simp) h

theorem linkByte_poolSafe {s : State} (b : Byte) (h : s.poolSafe) : (s.linkByte b).poolSafe := by
  unfold State.linkByte
  split
  · exact poolSafe_of_pool (by simp) h
  · dsimp only
    split
    · unfold State.frameComplete
      dsimp only
      split
      · exact poolSafe_of_pool (by simp) h
      · split
        · exact poolSafe_of_pool (by simp) h
        · exact enqueue_poolSafe .system _ (poolSafe_of_pool (by simp) h)
    · exact poolSafe_of_pool (by simp) h

theorem frameSent_poolSafe {s : State} (h : s.poolSafe) : s.frameSent.poolSafe := by
  unfold State.frameSent
  dsimp only
  split
  · exact poolSafe_of_pool (by simp) h
  · exact drainAll_poolSafe .system (poolSafe_of_pool (by simp) h)

theorem sendByte_poolSafe {s : State} (h : s.poolSafe) : s.sendByte.poolSafe := by
  unfold State.sendByte
  split
  · exact poolSafe_of_pool (by simp) h
  · exact frameSent_poolSafe h

theorem clockByte_poolSafe {s : State} (b : Byte) (h : s.poolSafe) : (s.clockByte b).poolSafe := by
  unfold State.clockByte
  split
  · exact linkByte_poolSafe b (sendByte_poolSafe h)
  · exact linkByte_poolSafe b h

theorem State.writeStatus_pool (s : State) (w : Word) : (s.writeStatus w).pool = s.pool := by
  simp [State.writeStatus]

/-! ## The mixer -/

/-- A property that each voice's part keeps is kept by the round of the voices. -/
theorem foldl_keeps {α β : Type} {P : β → Prop} {f : β → α → β} (hf : ∀ b a, P b → P (f b a)) (l : List α)
    {b : β} (h : P b) : P (l.foldl f b) := by
  induction l generalizing b with
  | nil => exact h
  | cons a rest ih => exact ih (hf b a h)

theorem advanceVoice_poolSafe {s : State} (v : Fin 16) (h : s.poolSafe) : (s.advanceVoice v).poolSafe := by
  unfold State.advanceVoice
  dsimp only
  have moved : ∀ (c : Channel) (n f : Nat),
      ((s.setChannel v c).setVoice v { s.voices[v] with n := n, f := f }).poolSafe :=
    fun c n f => setVoice_poolSafe (poolSafe_of_pool (by simp) h) rfl (.inl rfl)
  split
  · exact moved _ _ _
  · split
    · exact endVoice_poolSafe _ (poolSafeBut_of_poolSafe v (moved _ _ _))
    · exact moved _ _ _

theorem frameVoice_poolSafe (s : State) (v : Fin 16) (h : s.poolSafe) : (s.frameVoice v).poolSafe := by
  unfold State.frameVoice
  dsimp only
  split
  · split
    · exact poolSafe_of_pool (by simp) h
    · exact advanceVoice_poolSafe v (setVoice_poolSafe (poolSafe_of_pool (by simp) h) rfl (.inl rfl))
  · exact h

theorem computeFrame_poolSafe {s : State} (h : s.poolSafe) : s.computeFrame.poolSafe := by
  unfold State.computeFrame
  exact poolSafe_of_pool (by simp)
    (foldl_keeps frameVoice_poolSafe voiceNumbers (b := { s with mx := s.mx.clear }) h)

theorem applyStaged_poolSafe {s : State} (h : s.poolSafe) : s.applyStaged.poolSafe := by
  obtain ⟨hn, hm, hs⟩ := h
  have same : ∀ w : Fin 16, s.applyStaged.voices[w].inUse = s.voices[w].inUse
      ∧ s.applyStaged.voices[w].starve = s.voices[w].starve := by
    intro w
    simp only [State.applyStaged, Fin.getElem_fin, Vector.getElem_map]
    split <;> exact ⟨rfl, rfl⟩
  refine ⟨hn, fun w => (same w).1 ▸ hm w, fun w hw => ?_⟩
  rw [(same w).1] at hw
  rw [(same w).2]
  exact hs w hw

theorem envelope_inUse_starve (x : Voice) : x.envelope.inUse = x.inUse ∧ x.envelope.starve = x.starve := by
  unfold Voice.envelope; split <;> exact ⟨rfl, rfl⟩

theorem envelopeVoice_poolSafe (s : State) (v : Fin 16) (h : s.poolSafe) : (s.envelopeVoice v).poolSafe := by
  unfold State.envelopeVoice
  dsimp only
  split
  · obtain ⟨hu, hx⟩ := envelope_inUse_starve s.voices[v]
    exact setVoice_poolSafe h hu (.inl hx)
  · have fallen := setVoice_poolSafe (v := v)
      (x := { s.voices[v] with level := s.voices[v].level - s.voices[v].release }) h rfl (.inl rfl)
    split
    · exact endVoice_poolSafe _ (poolSafeBut_of_poolSafe v fallen)
    · exact fallen
  · exact h

theorem starveOut_poolSafe {s : State} {v : Fin 16} (h : s.poolSafeBut v) : (s.starveOut v).poolSafe :=
  poolSafe_of_pool (by simp [State.starveOut]) (endVoice_poolSafe .starved h)

theorem starveVoice_poolSafe (s : State) (v : Fin 16) (h : s.poolSafe) : (s.starveVoice v).poolSafe := by
  unfold State.starveVoice
  dsimp only
  split
  · generalize (if s.mx.marks[v] then s.voices[v].starve + 1 else 0) = count
    have counted : (s.setVoice v { s.voices[v] with starve := count }).poolSafeBut v :=
      setVoice_poolSafeBut (poolSafeBut_of_poolSafe v h) rfl
    split
    · exact starveOut_poolSafe counted
    · exact poolSafe_of_poolSafeBut counted (by rw [State.setVoice_voices, putAt_same]; dsimp only; omega)
  · exact h

theorem mixerTick_poolSafe {s : State} (h : s.poolSafe) : s.mixerTick.poolSafe := by
  have moved := foldl_keeps envelopeVoice_poolSafe voiceNumbers (applyStaged_poolSafe h)
  have starved := foldl_keeps starveVoice_poolSafe voiceNumbers moved
  exact poolSafe_of_pool (by simp [State.mixerTick]) starved

/-! ## The fetch engine, power-up and reset -/

theorem startPlaying_inUse_starve (x : Voice) :
    x.startPlaying.inUse = x.inUse ∧ x.startPlaying.starve = x.starve := by
  unfold Voice.startPlaying
  split
  · next hk =>
    have hu : x.inUse = true := by simp [Voice.inUse, hk]
    split <;> exact ⟨hu.symm, rfl⟩
  · exact ⟨rfl, rfl⟩

theorem deliverFetch_poolSafe {s : State} (v : Fin 16) (bytes : List Byte) (h : s.poolSafe) :
    (s.deliverFetch v bytes).poolSafe := by
  unfold State.deliverFetch
  dsimp only
  split
  · exact poolSafe_of_pool (by simp) h
  · split
    · obtain ⟨hu, hx⟩ := startPlaying_inUse_starve s.voices[v]
      exact setVoice_poolSafe (poolSafe_of_pool (by simp) h) hu (.inl hx)
    · exact poolSafe_of_pool (by simp) h

/-- A pool of FREE voices alone is sound with an empty age list. -/
theorem poolSafe_of_free {s : State} (ha : s.age = []) (hv : ∀ w : Fin 16, s.voices[w].inUse = false) :
    s.poolSafe :=
  ⟨ha ▸ List.nodup_nil, fun w => by rw [ha, hv w]; simp, fun w hw => absurd hw (by rw [hv w]; simp)⟩

theorem consoleInitial_poolSafe (s : State) : s.consoleInitial.poolSafe :=
  poolSafe_of_free rfl fun w => by simp [State.consoleInitial, Voice.initial, Voice.inUse]

theorem afterReset_free (x : Voice) : x.afterReset.inUse = false := by
  cases hx : x.state <;> simp [Voice.afterReset, Voice.inUse, Voice.ended, hx]

/-! ## Every command -/

/-- Where an outcome is a next state, the pool of that state is sound. -/
def nextPoolSafe (o : Host.Outcome State Fault Refusal) : Prop := ∀ t, o = .next t → t.poolSafe

@[simp] theorem nextPoolSafe_next (s : State) : nextPoolSafe (.next s) ↔ s.poolSafe := by
  simp [nextPoolSafe]

theorem nextPoolSafe_fault (f : Fault) : nextPoolSafe (.fault f) := by simp [nextPoolSafe]

theorem receive_poolSafe {s : State} (m : Master) (tag : Byte) (q : Req) (h : s.poolSafe) :
    nextPoolSafe (receive m tag q s) := by
  unfold receive
  split
  · exact (nextPoolSafe_next _).2 (arrive_poolSafe m tag q h)
  · exact (nextPoolSafe_next _).2 h

/-- The completion of a store operation keeps the pool sound where the work it goes on with leaves it alone. -/
theorem completeStore_poolSafe {s : State} {pick : OpOwner → Bool} {act : StoreOp → List Byte → State → State}
    (ha : ∀ op bytes u, (act op bytes u).pool = u.pool) (h : s.poolSafe) :
    nextPoolSafe (completeStore pick act s) := by
  intro t ht
  rcases completeStore_next ht with ⟨_, rfl⟩ | ⟨op, d, _, _, rfl⟩
  · exact h
  · exact poolSafe_of_pool (by simp [ha]) h

/-- A command that does something only where its condition holds. -/
theorem guarded_poolSafe {c : Prop} [Decidable c] {s t : State} (h : s.poolSafe) (ht : t.poolSafe) :
    nextPoolSafe (if c then .next t else .next s) := by
  split
  · exact (nextPoolSafe_next t).2 ht
  · exact (nextPoolSafe_next s).2 h

/-- A command that leaves the pool alone where its condition holds. -/
theorem guarded_pool {c : Prop} [Decidable c] {s t : State} (h : s.poolSafe) (ht : t.pool = s.pool) :
    nextPoolSafe (if c then .next t else .next s) := guarded_poolSafe h (poolSafe_of_pool ht h)

theorem execReqWrite_poolSafe {s : State} (w : Word) (h : s.poolSafe) : nextPoolSafe (execReqWrite w s) := by
  unfold execReqWrite
  split
  · split
    · exact (nextPoolSafe_next _).2 (assemble_poolSafe _ h)
    · split
      · exact (nextPoolSafe_next _).2 (assemble_poolSafe _ h)
      · exact (nextPoolSafe_next _).2 (poolSafe_of_pool (by simp) h)
  · exact (nextPoolSafe_next s).2 h

theorem execRspRead_poolSafe {s : State} (h : s.poolSafe) : nextPoolSafe (execRspRead s) := by
  unfold execRspRead
  split
  · split
    · exact (nextPoolSafe_next _).2 (poolSafe_of_pool (by simp) h)
    · dsimp only
      split
      · exact (nextPoolSafe_next _).2 (poolSafe_of_pool (by simp) h)
      · exact (nextPoolSafe_next _).2 (drainAll_poolSafe .game (poolSafe_of_pool (by simp) h))
  · exact (nextPoolSafe_next s).2 h

theorem execNoteRead_poolSafe {s : State} (h : s.poolSafe) : nextPoolSafe (execNoteRead s) := by
  unfold execNoteRead
  split
  · split
    · exact (nextPoolSafe_next _).2 (poolSafe_of_pool (by simp) h)
    · dsimp only
      split <;> exact (nextPoolSafe_next _).2 (poolSafe_of_pool (by simp) h)
  · exact (nextPoolSafe_next s).2 h

theorem execAudioFrame_poolSafe {s : State} (h : s.poolSafe) : nextPoolSafe (execAudioFrame s) := by
  have ticked : (if s.tickDue then s.mixerTick else s).poolSafe := by
    split
    · exact mixerTick_poolSafe h
    · exact h
  unfold execAudioFrame
  split
  · split
    · exact (nextPoolSafe_next _).2 (poolSafe_of_pool (by simp) h)
    · exact (nextPoolSafe_next _).2 (poolSafe_of_pool (by simp) (computeFrame_poolSafe ticked))
  · exact (nextPoolSafe_next s).2 h

theorem execVoiceStarve_poolSafe {s : State} (v : Nat) (h : s.poolSafe) :
    nextPoolSafe (execVoiceStarve v s) := by
  unfold execVoiceStarve
  split
  · exact guarded_poolSafe h (starveOut_poolSafe (poolSafeBut_of_poolSafe _ h))
  · exact (nextPoolSafe_next s).2 h

theorem execFrameSyncEdge_poolSafe {s : State} (h : s.poolSafe) : nextPoolSafe (execFrameSyncEdge s) := by
  unfold execFrameSyncEdge
  split
  · split
    · exact (nextPoolSafe_next s).2 h
    · exact (nextPoolSafe_next _).2 (poolSafe_of_pool (by simp) h)
    · dsimp only
      split <;> exact (nextPoolSafe_next _).2 (poolSafe_of_pool (by simp) h)
  · exact (nextPoolSafe_next s).2 h

theorem execFetchBurstComplete_poolSafe {s : State} (h : s.poolSafe) :
    nextPoolSafe (execFetchBurstComplete s) := by
  unfold execFetchBurstComplete
  split
  · split
    · split
      · exact (nextPoolSafe_next _).2 (poolSafe_of_pool (State.arbitrate_pool _)
          (deliverFetch_poolSafe _ _ (poolSafe_of_pool s.busFree_pool h)))
      · exact nextPoolSafe_fault _
    · exact (nextPoolSafe_next s).2 h
  · exact (nextPoolSafe_next s).2 h

theorem execConfigBurstComplete_poolSafe {s : State} (h : s.poolSafe) :
    nextPoolSafe (execConfigBurstComplete s) := by
  unfold execConfigBurstComplete
  split
  · split
    · dsimp only
      split
      · exact (nextPoolSafe_next _).2 (poolSafe_of_pool (by simp) h)
      · exact nextPoolSafe_fault _
    · exact (nextPoolSafe_next s).2 h
  · exact (nextPoolSafe_next s).2 h

theorem execConsolePowerUp_poolSafe {s : State} (weak : Bool) (h : s.poolSafe) :
    nextPoolSafe (execConsolePowerUp weak s) := by
  unfold execConsolePowerUp
  split
  · exact (nextPoolSafe_next s).2 h
  · exact (nextPoolSafe_next _).2 (poolSafe_of_pool (by simp) (consoleInitial_poolSafe s.restartIfLost))

theorem execConsoleReset_poolSafe {s : State} (h : s.poolSafe) : nextPoolSafe (execConsoleReset s) :=
  guarded_poolSafe h (poolSafe_of_free rfl fun w => by
    rw [Fin.getElem_fin, Vector.getElem_map]; exact afterReset_free _)

theorem execResetRelease_poolSafe {s : State} (h : s.poolSafe) : nextPoolSafe (execResetRelease s) := by
  unfold execResetRelease
  split
  · split <;> exact (nextPoolSafe_next _).2 (poolSafe_of_pool (by simp) h)
  · exact (nextPoolSafe_next s).2 h

/-- Every command keeps the pool sound. The requests do by their jobs; of the other commands the mixer's, the fetch
engine's and those of power and reset change the pool. -/
theorem exec_poolSafe {s : State} (c : Instr) (h : s.poolSafe) : nextPoolSafe (exec c s) := by
  have same : ∀ {t : State}, t.pool = s.pool → nextPoolSafe (.next t) := fun ht =>
    (nextPoolSafe_next _).2 (poolSafe_of_pool ht h)
  cases c with
  | badRequest m r => exact guarded_poolSafe h (arriveRaw_poolSafe m r h)
  | reqWrite w => exact execReqWrite_poolSafe w h
  | rspRead => exact execRspRead_poolSafe h
  | noteRead => exact execNoteRead_poolSafe h
  | portStatusRead => exact guarded_pool h (by simp)
  | discardAssembly => exact same (s.writeStatus_pool _)
  | clearOverflow => exact same (s.writeStatus_pool _)
  | writeAttentionEnable on => exact same (s.writeStatus_pool _)
  | portStatusWrite w => exact same (s.writeStatus_pool w)
  | registerWriteNoEffect loc w => exact same rfl
  | requestFrame bytes =>
    exact guarded_poolSafe h (foldl_keeps (fun _ b => clockByte_poolSafe b) bytes h)
  | sendFrame => exact guarded_poolSafe h (frameSent_poolSafe h)
  | audioFrame => exact execAudioFrame_poolSafe h
  | mixerTick => exact guarded_poolSafe h (mixerTick_poolSafe h)
  | voiceStarve v => exact execVoiceStarve_poolSafe v h
  | brakeEnd => exact guarded_pool h (by simp)
  | carrierPeriodStart => exact guarded_pool h (s.runClock_pool _)
  | pwmPulseEnd => exact guarded_pool h (s.runClock_pool _)
  | deadTimeExpiry leg => exact guarded_pool h (s.runClock_pool _)
  | staleTimerExpiry => exact guarded_pool h (s.runClock_pool _)
  | cutoffInputActive => exact same (s.cutoffLevel_pool true)
  | cutoffInputInactive => exact same (s.cutoffLevel_pool false)
  | secondBoundary weak => exact guarded_pool h (s.toSecond_pool weak)
  | minuteBoundary weak => exact guarded_pool h (State.toSeconds_pool _ weak s)
  | frameSyncEdge => exact execFrameSyncEdge_poolSafe h
  | rateCheckTimeout => exact guarded_pool h (State.passTicks_pool _ _ s)
  | fetchBurstComplete => exact execFetchBurstComplete_poolSafe h
  | configBurstComplete => exact execConfigBurstComplete_poolSafe h
  | mountReadComplete => exact completeStore_poolSafe State.mountArrives_pool h
  | dataWriteComplete => exact completeStore_poolSafe State.dataWritten_pool h
  | pageWriteBurstComplete => exact completeStore_poolSafe (fun _ _ u => u.pageBurst_pool) h
  | copyReadComplete => exact completeStore_poolSafe State.copyArrives_pool h
  | copyWriteComplete => exact completeStore_poolSafe State.copyWritten_pool h
  | loadReadComplete => exact completeStore_poolSafe State.loadArrives_pool h
  | verifyReadComplete => exact completeStore_poolSafe State.verifyArrives_pool h
  | supplyFailing able => exact guarded_pool h (by simp)
  | consolePowerUp weak => exact execConsolePowerUp_poolSafe weak h
  | consoleReset => exact execConsoleReset_poolSafe h
  | resetRelease => exact execResetRelease_poolSafe h
  | batteryLoss => exact guarded_pool h (by simp)
  | batteryDomainRestart => exact guarded_pool h (by simp)
  | sramContentsLost => exact guarded_pool h (by simp)
  | _ => exact receive_poolSafe _ _ _ h

/-! ## The step -/

@[simp] theorem State.idleClock_pool (s : State) : s.idleClock.pool = s.pool := by simp [State.idleClock]

@[simp] theorem State.idleCrystal_pool (s : State) : s.idleCrystal.pool = s.pool := by
  unfold State.idleCrystal
  split
  · dsimp only
    split <;> simp
  · rfl

theorem idle_poolSafe {s : State} (h : s.poolSafe) : s.idle.poolSafe := by
  have ticked : s.idleClock.idleCrystal.pool = s.pool := by simp
  unfold State.idle State.idleLink
  dsimp only
  split
  · split
    · exact sendByte_poolSafe (poolSafe_of_pool ticked h)
    · exact poolSafe_of_pool ticked h
  · exact poolSafe_of_pool ticked h

/-- Settles O25: the pool is sound after every step, since every command and the idle step keep it so. -/
theorem poolKept : Obligations.PoolKept := by
  intro s t h hstep
  unfold step at hstep
  split at hstep
  · cases hstep; exact idle_poolSafe h
  · exact exec_poolSafe _ (poolSafe_of_pool (by simp) h) t hstep

end Sys2Proof.Machine
end

section
/-! SUPPORT. The voice requests: what their checks and the allocation of a voice do, and with a slot reserved for the
reply what each request does in whole (R3 to R19). -/

namespace Sys2Proof.Machine

/-! ## A slot reserved is looked at by the reply alone -/

theorem reserveSlot_setVoice (s : State) (m : Master) (v : Fin 16) (x : Voice) :
    (s.reserveSlot m).setVoice v x = (s.setVoice v x).reserveSlot m := by cases m <;> rfl

theorem reserveSlot_allocate (s : State) (m a : Master) (p : VoiceStart) (v : Fin 16) :
    (s.reserveSlot m).allocate a p v = (s.allocate a p v).reserveSlot m := by cases m <;> rfl

theorem Queues.post_reserve (q : Queues) (n : Notice) (k : Nat) :
    ({ q with reserved := k } : Queues).post n = { q.post n with reserved := k } := by
  unfold Queues.post
  dsimp only
  split <;> rfl

theorem reserveSlot_post (s : State) (m o : Master) (n : Notice) :
    (s.reserveSlot m).post o n = (s.post o n).reserveSlot m := by
  cases m <;> cases o <;> simp [State.reserveSlot, State.post, State.queues, State.setQueues, Queues.post_reserve]

theorem reserveSlot_endVoice (s : State) (m : Master) (v : Fin 16) (r : EndReason) :
    (s.reserveSlot m).endVoice v r = (s.endVoice v r).reserveSlot m := by
  have freed : (s.reserveSlot m).freeVoice v r = (s.freeVoice v r).reserveSlot m := by cases m <;> rfl
  unfold State.endVoice
  dsimp only
  rw [freed, State.reserveSlot_voices]
  split
  · exact reserveSlot_post _ m _ _
  · rfl

/-! ## What VOICE_START finds and makes -/

/-- The lowest-numbered FREE voice is the one that is taken (R6). -/
theorem firstFree_eq_some {s : State} {v : Fin 16} (hv : s.voices[v].state = .free)
    (hw : ∀ w < v, s.voices[w].state ≠ .free) : s.firstFree = some v := by
  refine List.find?_eq_some_iff_getElem.2 ⟨by simpa [Voice.inUse] using hv, v.val, by simp [voiceNumbers], ?_, ?_⟩
  · simp [voiceNumbers]
  · intro j hj
    have := hw ⟨j, by omega⟩ hj
    simpa [voiceNumbers, Voice.inUse] using this

theorem firstFree_eq_none {s : State} (h : ∀ w : Fin 16, s.voices[w].state ≠ .free) : s.firstFree = none :=
  List.find?_eq_none.2 fun w _ => by simpa [Voice.inUse] using h w

/-- The named values of parameters in range (R5). -/
theorem startInRange_named {p : VoiceStart} {n : Nat} (h : startInRange p n = true) :
    (p.dest = 0 ∨ p.dest = 1) ∧ (p.format = 0 ∨ p.format = 1) := by
  constructor
  · refine Decidable.byContradiction fun hc => ?_
    have : destOf p.dest = none := by simp_all [destOf]
    simp [startInRange, this] at h
  · refine Decidable.byContradiction fun hc => ?_
    have : formatOf p.format = none := by simp_all [formatOf]
    simp [startInRange, this] at h

theorem destOf_named {b : Byte} (h : b = 0 ∨ b = 1) :
    (destOf b).getD .speaker = if b = 0 then .speaker else .motor := by
  rcases h with rfl | rfl <;> rfl

theorem formatOf_named {b : Byte} (h : b = 0 ∨ b = 1) :
    (formatOf b).getD .pcm8 = if b = 0 then .pcm8 else .pcm16 := by
  rcases h with rfl | rfl <;> rfl

theorem formatOf_bytes {b : Byte} (h : b = 0 ∨ b = 1) :
    (if b = 0 then SampleFormat.pcm8 else SampleFormat.pcm16).bytes = b.toNat + 1 := by
  rcases h with rfl | rfl <;> rfl

/-- The record of an allocated voice keeps nothing of its last use but the generation (R3, R10). -/
theorem allocated_eq {p : VoiceStart} {n : Nat} (h : startInRange p n = true) (x : Voice) (m : Master) :
    x.allocated m p = allocatedRecord m p x.gen := by
  obtain ⟨hd, hf⟩ := startInRange_named h
  simp only [Voice.allocated, allocatedRecord, destOf_named hd, formatOf_named hf]
  rfl

/-- The channel of an allocated voice keeps its burst in flight and its mark alone (R40). -/
theorem setUp_eq {p : VoiceStart} {n : Nat} (h : startInRange p n = true) (c : Channel) (m : Master)
    (gen : BitVec 4) : c.setUp (allocatedRecord m p gen) = setUpChannel p c.inFlight c.discard := by
  obtain ⟨hd, hf⟩ := startInRange_named h
  simp only [Channel.setUp, allocatedRecord, setUpChannel, formatOf_bytes hf, Option.map_map,
    Function.comp_def]

/-- What an allocation in range leaves (R2, R10, R40; log entry 32). -/
theorem allocate_eq {p : VoiceStart} {n : Nat} (h : startInRange p n = true) (s : State) (m : Master)
    (v : Fin 16) : s.allocate m p v = { s with
      voices := putAt s.voices v (allocatedRecord m p s.voices[v].gen)
      age := s.age ++ [v]
      mx := { s.mx with marks := putAt s.mx.marks v false }
      channels := putAt s.channels v (setUpChannel p s.channels[v].inFlight s.channels[v].discard) } := by
  rw [allocate_frame, allocated_eq h, setUp_eq h]

theorem handle_allocate (s : State) (m : Master) (p : VoiceStart) (v : Fin 16) :
    (s.allocate m p v).handle v = mkHandle v (s.voices[v].gen + 1) := by
  simp [State.handle, allocate_frame, Voice.allocated]

/-- A VOICE_START in range with a voice FREE (R6, R10). -/
theorem jobVoiceStart_free {s : State} {a : Ask} {p : VoiceStart} {v : Fin 16}
    (hr : startInRange p s.bl.cfg.romBytes = true) (hv : s.firstFree = some v) :
    jobVoiceStart a p (s.reserveSlot a.m) = ((s.allocate a.m p v).withReply a.m a.kind a.tag .ok
      [mkHandle v (s.voices[v].gen + 1)]).arbitrate := by
  have found : (s.reserveSlot a.m).firstFree = some v := by cases a.m <;> exact hv
  unfold jobVoiceStart
  rw [State.reserveSlot_bl, if_pos hr]
  simp only [found, handle_allocate, State.reserveSlot_voices]
  rw [reserveSlot_allocate, reserve_answer]

/-- A VOICE_START in range that steals a voice (R6, R9). -/
theorem jobVoiceStart_steal {s : State} {a : Ask} {p : VoiceStart} {v : Fin 16}
    (hr : startInRange p s.bl.cfg.romBytes = true) (hf : s.firstFree = none)
    (hv : s.victim a.m p.priority.toNat = some v) :
    jobVoiceStart a p (s.reserveSlot a.m) = (((s.endVoice v .stolen).allocate a.m p v).withReply a.m a.kind
      a.tag .ok [mkHandle v ((s.endVoice v .stolen).voices[v].gen + 1)]).arbitrate := by
  have none' : (s.reserveSlot a.m).firstFree = none := by cases a.m <;> exact hf
  have found : (s.reserveSlot a.m).victim a.m p.priority.toNat = some v := by
    revert hv
    cases a.m <;> exact id
  unfold jobVoiceStart
  rw [State.reserveSlot_bl, if_pos hr]
  simp only [none', found, handle_allocate]
  rw [reserveSlot_endVoice, State.reserveSlot_voices, reserveSlot_allocate, reserve_answer]

/-- A VOICE_START in range that finds no voice (R9). -/
theorem jobVoiceStart_noVoice {s : State} {a : Ask} {p : VoiceStart}
    (hr : startInRange p s.bl.cfg.romBytes = true) (hf : s.firstFree = none)
    (hv : s.victim a.m p.priority.toNat = none) :
    jobVoiceStart a p (s.reserveSlot a.m) = s.withReply a.m a.kind a.tag .noVoice [] := by
  have none' : (s.reserveSlot a.m).firstFree = none := by cases a.m <;> exact hf
  have found : (s.reserveSlot a.m).victim a.m p.priority.toNat = none := by
    revert hv
    cases a.m <;> exact id
  unfold jobVoiceStart
  rw [State.reserveSlot_bl, if_pos hr]
  simp only [none', found]
  exact reserve_refuse s a .noVoice

theorem exec_voiceStart {s : State} {m : Master} (tag : Byte) (p : VoiceStart) (h : s.takes m .running) :
    exec (.voiceStart m tag p) s = .next (jobVoiceStart ⟨m, tag, 0x01⟩ p (s.reserveSlot m)) :=
  receive_takes h rfl

/-- Settles O17: the port hands the request over, the search ends at the lowest FREE voice, and the allocation is the
record named. -/
theorem voiceStartTakesFree : Obligations.VoiceStartTakesFree := by
  intro m tag p s v ht hr hv hw
  rw [exec_voiceStart tag p ht, jobVoiceStart_free (a := ⟨m, tag, 0x01⟩) hr (firstFree_eq_some hv hw),
    allocate_eq hr]

/-! ## Ending a voice -/

/-- The pool and the channel after an end (R18, R46). -/
theorem freeVoice_eq (s : State) (v : Fin 16) (r : EndReason) : s.freeVoice v r = { s with
    voices := putAt s.voices v { s.voices[v] with
      state := .free, phase := none, endReason := some r, pendingStep := none
      pendingVolume := none, pendingPan := none, level := 0, starve := 0 }
    age := s.age.filter (· != v)
    channels := putAt s.channels v { s.channels[v] with
      state := .idle, fifo := [], skip := 0, discard := s.channels[v].inFlight } } := rfl

/-- R18's table of the notices. -/
theorem posts_iff (r : EndReason) (notify : Bool) : r.posts notify = true ↔
    r = .stolen ∨ r = .starved ∨ (r ≠ .reset ∧ notify = true) := by
  cases r <;> simp [EndReason.posts]

/-- An end that R18's table has a notice for. -/
theorem endVoice_posts {s : State} {v : Fin 16} {r : EndReason} (h : r.posts s.voices[v].notify = true) :
    s.endVoice v r = (s.freeVoice v r).post s.voices[v].owner
      (.voiceEnded (mkHandle v s.voices[v].gen) r) := if_pos h

/-- An end without a notice. -/
theorem endVoice_silent {s : State} {v : Fin 16} {r : EndReason} (h : r.posts s.voices[v].notify = false) :
    s.endVoice v r = s.freeVoice v r := if_neg (Bool.eq_false_iff.1 h)

/-- Settles O20: the end by R18's table, and VOICE_STARVE, which carries out R54 where a count stands at 3. -/
theorem voiceEnds : Obligations.VoiceEnds := by
  refine ⟨fun s v r => ?_, fun s v hp hu hs => ?_⟩
  · dsimp only
    split
    · next h => rw [endVoice_posts ((posts_iff r _).2 h), freeVoice_eq]
    · next h => rw [endVoice_silent (Bool.eq_false_iff.2 fun hp => h ((posts_iff r _).1 hp)), freeVoice_eq]
  · have due : (s.powered && s.voices[v].inUse && decide (3 ≤ s.voices[v].starve)) = true := by
      simp [hp, Voice.inUse] at hu hs ⊢
      exact ⟨hu, hs⟩
    show execVoiceStarve v.val s = _
    unfold execVoiceStarve
    rw [dif_pos v.isLt]
    simp only [Fin.eta, due, if_true, State.starveOut]
    cases s.voices[v].owner <;> rfl

/-! ## Stealing -/

theorem putAt_putAt {α : Type} {n : Nat} (xs : Vector α n) (i : Fin n) (x y : α) :
    putAt (putAt xs i x) i y = putAt xs i y := by simp [putAt]

theorem post_allocate (s : State) (o m : Master) (n : Notice) (p : VoiceStart) (v : Fin 16) :
    (s.post o n).allocate m p v = (s.allocate m p v).post o n := by cases o <;> rfl

/-- A voice ended and allocated anew: its channel is marked where a burst is in flight for it (R9, R46). -/
theorem freeVoice_allocate {p : VoiceStart} {n : Nat} (h : startInRange p n = true) (s : State) (m : Master)
    (v : Fin 16) (r : EndReason) : (s.freeVoice v r).allocate m p v = { s with
      voices := putAt s.voices v (allocatedRecord m p s.voices[v].gen)
      age := s.age.filter (· != v) ++ [v]
      mx := { s.mx with marks := putAt s.mx.marks v false }
      channels := putAt s.channels v (setUpChannel p s.channels[v].inFlight s.channels[v].inFlight) } := by
  rw [allocate_eq h, freeVoice_eq]
  simp only [putAt_same, putAt_putAt]

/-- Settles O18: the victim ends with STOLEN, whose notice R18's table always has, and is allocated. -/
theorem voiceStartSteals : Obligations.VoiceStartSteals := by
  refine ⟨fun m tag p s v ht hr hu hv => ?_, fun m tag p s ht hr hu hv => ?_⟩
  · have stolen := endVoice_posts (s := s) (v := v) (r := .stolen) rfl
    have gen : (s.endVoice v .stolen).voices[v].gen = s.voices[v].gen := by
      rw [stolen, State.post_voices, freeVoice_eq, putAt_same]
    rw [exec_voiceStart tag p ht, jobVoiceStart_steal (a := ⟨m, tag, 0x01⟩) hr (firstFree_eq_none hu) hv, gen,
      stolen, post_allocate, freeVoice_allocate hr]
  · rw [exec_voiceStart tag p ht, jobVoiceStart_noVoice (a := ⟨m, tag, 0x01⟩) hr (firstFree_eq_none hu) hv]

/-! ## The requests that name a voice -/

theorem withHandle_stale {a : Ask} {b : Byte} {s : State} {act : Fin 16 → State}
    (h : s.voices[handleVoice b].gen ≠ handleGen b ∨ s.voices[handleVoice b].state = .free) :
    withHandle a b s act = s.refuse a .stale := if_pos h

theorem withHandle_denied {a : Ask} {b : Byte} {s : State} {act : Fin 16 → State}
    (hg : s.voices[handleVoice b].gen = handleGen b) (hu : s.voices[handleVoice b].state ≠ .free)
    (ho : s.voices[handleVoice b].owner ≠ a.m) : withHandle a b s act = s.refuse a .denied := by
  unfold withHandle
  dsimp only
  rw [if_neg (not_or.2 ⟨Classical.not_not.2 hg, hu⟩), if_pos ho]

theorem withHandle_owns {a : Ask} {b : Byte} {s : State} {act : Fin 16 → State} (h : s.ownsHandle a.m b) :
    withHandle a b s act = act (handleVoice b) := by
  obtain ⟨hg, hu, ho⟩ := h
  unfold withHandle
  dsimp only
  rw [if_neg (not_or.2 ⟨Classical.not_not.2 hg, hu⟩), if_neg (Classical.not_not.2 ho)]

/-- The handle checks with a slot reserved are those without. -/
theorem ownsHandle_reserveSlot {s : State} {m : Master} {b : Byte} (h : s.ownsHandle m b) :
    (s.reserveSlot m).ownsHandle m b := by cases m <;> exact h

theorem exec_voiceSet {s : State} {m : Master} (tag : Byte) (p : VoiceSet) (h : s.takes m .running) :
    exec (.voiceSet m tag p) s = .next (jobVoiceSet ⟨m, tag, 0x02⟩ p (s.reserveSlot m)) :=
  receive_takes h rfl

theorem exec_voiceRelease {s : State} {m : Master} (tag b : Byte) (h : s.takes m .running) :
    exec (.voiceRelease m tag b) s = .next (jobVoiceRelease ⟨m, tag, 0x03⟩ b (s.reserveSlot m)) :=
  receive_takes h rfl

theorem exec_voiceStop {s : State} {m : Master} (tag b : Byte) (h : s.takes m .running) :
    exec (.voiceStop m tag b) s = .next (jobVoiceStop ⟨m, tag, 0x04⟩ b (s.reserveSlot m)) :=
  receive_takes h rfl

theorem exec_voiceQuery {s : State} {m : Master} (tag b : Byte) (h : s.takes m .running) :
    exec (.voiceQuery m tag b) s = .next (jobVoiceQuery ⟨m, tag, 0x05⟩ b (s.reserveSlot m)) :=
  receive_takes h rfl

/-- A volume or pan that may be staged is absent or at most 127 (R16). -/
theorem stageable_iff (o : Option Byte) : stageable o = true ↔ ∀ b, o = some b → b.toNat ≤ 127 := by
  cases o <;> simp [stageable]

/-- The staged record field by field (R16). -/
theorem staged_eq (x : Voice) (p : VoiceSet) : x.staged p = { x with
    pendingStep := match p.step with
      | some q => some (max 0x100 (min 0x40000 q.toNat))
      | none => x.pendingStep
    pendingVolume := match p.volume with
      | some b => some b.toNat
      | none => x.pendingVolume
    pendingPan := match p.pan with
      | some b => some b.toNat
      | none => x.pendingPan } := by
  cases hs : p.step <;> cases hv : p.volume <;> cases hp : p.pan <;>
    simp [Voice.staged, hs, hv, hp, clampStep, clamp, minStep, maxStep]

/-- Settles O21: staging where both fields pass, and otherwise the whole request refused. -/
theorem voiceSetStages : Obligations.VoiceSetStages := by
  refine ⟨fun m tag p s ht ho hv hp => ?_, fun m tag p s ht ho ⟨b, hb, h127⟩ => ?_⟩
  · have passes : (stageable p.volume && stageable p.pan) = true :=
      Bool.and_eq_true_iff.2 ⟨(stageable_iff _).2 hv, (stageable_iff _).2 hp⟩
    rw [exec_voiceSet tag p ht, jobVoiceSet, withHandle_owns (ownsHandle_reserveSlot ho), if_pos passes,
      reserveSlot_setVoice, State.reserveSlot_voices,
      reserve_answer _ ⟨m, tag, 0x02⟩, staged_eq]
    rfl
  · have fails : ¬(stageable p.volume && stageable p.pan) = true := by
      intro h
      obtain ⟨hv, hp⟩ := Bool.and_eq_true_iff.1 h
      rcases hb with hb | hb
      · exact absurd ((stageable_iff _).1 hv b hb) (by omega)
      · exact absurd ((stageable_iff _).1 hp b hb) (by omega)
    rw [exec_voiceSet tag p ht, jobVoiceSet, withHandle_owns (ownsHandle_reserveSlot ho), if_neg fails,
      reserve_refuse s ⟨m, tag, 0x02⟩]

/-- Settles O22: the state of the voice decides what VOICE_RELEASE does, and VOICE_STOP asks nothing of it. -/
theorem voiceReleasedOrStopped : Obligations.VoiceReleasedOrStopped := by
  have released : ∀ (m : Master) (tag h : Byte) (s : State), s.takes m .running → s.ownsHandle m h →
      exec (.voiceRelease m tag h) s = .next (match s.voices[handleVoice h].state with
        | .playing => (s.setVoice (handleVoice h) { s.voices[handleVoice h] with
            state := .releasing, phase := none }).withReply m 0x03 tag .ok []
        | .keyed => (s.endVoice (handleVoice h) .released).withReply m 0x03 tag .ok []
        | _ => s.withReply m 0x03 tag .ok []) := by
    intro m tag h s ht ho
    rw [exec_voiceRelease tag h ht, jobVoiceRelease, withHandle_owns (ownsHandle_reserveSlot ho),
      State.reserveSlot_voices]
    cases s.voices[handleVoice h].state <;> dsimp only
    · rw [reserve_answer s ⟨m, tag, 0x03⟩]
    · rw [reserveSlot_endVoice, reserve_answer _ ⟨m, tag, 0x03⟩]
    · rw [reserveSlot_setVoice, reserve_answer _ ⟨m, tag, 0x03⟩]
    · rw [reserve_answer s ⟨m, tag, 0x03⟩]
  refine ⟨fun m tag h s ht ho hst => ?_, fun m tag h s ht ho hst => ?_, fun m tag h s ht ho hst => ?_,
    fun m tag h s ht ho => ?_⟩
  · rw [released m tag h s ht ho, hst]; rfl
  · rw [released m tag h s ht ho, hst]
  · rw [released m tag h s ht ho, hst]
  · rw [exec_voiceStop tag h ht, jobVoiceStop, withHandle_owns (ownsHandle_reserveSlot ho),
      reserveSlot_endVoice, reserve_answer _ ⟨m, tag, 0x04⟩]

/-- Settles O23: the three requests share the checks of R4. -/
theorem handleChecked : Obligations.HandleChecked := by
  have checked : ∀ (m : Master) (tag kind h : Byte) (s : State) (act : Fin 16 → State),
      (s.voices[handleVoice h].gen ≠ handleGen h ∨ s.voices[handleVoice h].state = .free →
        withHandle ⟨m, tag, kind⟩ h (s.reserveSlot m) act = s.withReply m kind tag .stale [])
      ∧ (s.voices[handleVoice h].gen = handleGen h → s.voices[handleVoice h].state ≠ .free →
        s.voices[handleVoice h].owner ≠ m →
        withHandle ⟨m, tag, kind⟩ h (s.reserveSlot m) act = s.withReply m kind tag .denied []) := by
    intro m tag kind h s act
    refine ⟨fun hs => ?_, fun hg hu ho => ?_⟩
    · rw [withHandle_stale (by rwa [State.reserveSlot_voices]), reserve_refuse s ⟨m, tag, kind⟩]
    · rw [withHandle_denied (by rwa [State.reserveSlot_voices]) (by rwa [State.reserveSlot_voices])
        (by rwa [State.reserveSlot_voices]), reserve_refuse s ⟨m, tag, kind⟩]
  intro m tag q c h s hq hc ht
  rcases hq with rfl | rfl | ⟨p, rfl, rfl⟩ <;> cases hc
  · rw [exec_voiceRelease tag h ht]
    exact (checked m tag 0x03 h s _).imp (congrArg _ ∘ ·) fun f a b d => congrArg _ (f a b d)
  · rw [exec_voiceStop tag h ht]
    exact (checked m tag 0x04 h s _).imp (congrArg _ ∘ ·) fun f a b d => congrArg _ (f a b d)
  · rw [exec_voiceSet tag p ht]
    exact (checked m tag 0x02 p.handle s _).imp (congrArg _ ∘ ·) fun f a b d => congrArg _ (f a b d)

/-- Settles O24: the generation alone is checked, and a voice in use and a FREE one have each their fields. -/
theorem voiceQueryReports : Obligations.VoiceQueryReports := by
  intro m tag h s ht
  dsimp only
  rw [exec_voiceQuery tag h ht]
  unfold jobVoiceQuery
  rw [State.reserveSlot_voices]
  refine ⟨fun hg => ?_, fun hg hu => ?_, fun hg hu => ?_⟩
  · dsimp only
    rw [if_pos hg, reserve_refuse s ⟨m, tag, 0x05⟩]
  · have used : s.voices[handleVoice h].inUse = true := by simpa [Voice.inUse] using hu
    dsimp only
    rw [if_neg (Classical.not_not.2 hg), if_pos used, reserve_answer s ⟨m, tag, 0x05⟩]
    rfl
  · have unused : ¬s.voices[handleVoice h].inUse = true := by simpa [Voice.inUse] using hu
    dsimp only
    rw [if_neg (Classical.not_not.2 hg), if_neg unused, reserve_answer s ⟨m, tag, 0x05⟩, Voice.queryFree, hu]
    simp [optional, u8, VoiceState.code]

end Sys2Proof.Machine
end

section
/-! SUPPORT. Stealing: the two tests that narrow the candidates, and the search of the age list (R7, R8). -/

namespace Sys2Proof.Machine

/-- The model's candidates are those of R7. -/
theorem candidate_iff (s : State) (m : Master) (priority : Nat) (v : Fin 16) :
    s.candidate m priority v = true ↔ mayTake s m priority v := by
  cases m with
  | game => simp [State.candidate, mayTake]
  | system =>
    simp only [State.candidate, mayTake]
    split <;> simp

/-- The first test of R8: the RELEASING candidates if there are any, and otherwise all. -/
def State.releasingFirst (s : State) (cands : List (Fin 16)) : List (Fin 16) :=
  let rel := cands.filter fun v => s.voices[v].state == .releasing
  if rel.isEmpty then cands else rel

theorem mem_releasingFirst {s : State} {cands : List (Fin 16)} {v : Fin 16} :
    v ∈ s.releasingFirst cands ↔ v ∈ cands
      ∧ ∀ w ∈ cands, s.voices[w].state = .releasing → s.voices[v].state = .releasing := by
  unfold State.releasingFirst
  dsimp only
  split
  · next he =>
    have no : ∀ w ∈ cands, s.voices[w].state ≠ .releasing := by simpa using he
    exact ⟨fun hv => ⟨hv, fun w hw hr => absurd hr (no w hw)⟩, fun h => h.1⟩
  · next he =>
    obtain ⟨u, hu, hr⟩ : ∃ u ∈ cands, s.voices[u].state = .releasing := by simpa using he
    rw [List.mem_filter, beq_iff_eq]
    exact ⟨fun ⟨hv, h⟩ => ⟨hv, fun _ _ _ => h⟩, fun ⟨hv, h⟩ => ⟨hv, h u hu hr⟩⟩

/-- The second test of R8: the lowest priority among those. -/
theorem mem_narrowed {s : State} {cands : List (Fin 16)} {v : Fin 16} :
    v ∈ s.narrowed cands ↔ v ∈ s.releasingFirst cands
      ∧ ∀ w ∈ s.releasingFirst cands, s.voices[v].priority ≤ s.voices[w].priority := by
  show v ∈ (s.releasingFirst cands).filter (fun v => (s.releasingFirst cands).all fun w =>
    decide (s.voices[v].priority ≤ s.voices[w].priority)) ↔ _
  rw [List.mem_filter, List.all_eq_true]
  simp only [decide_eq_true_eq]

theorem exists_lowest {α : Type} {l : List α} (f : α → Nat) (h : l ≠ []) : ∃ v ∈ l, ∀ w ∈ l, f v ≤ f w :=
  ⟨l.minOn f h, List.minOn_mem, fun _ hw => List.apply_minOn_le_of_mem hw⟩

/-- Of some candidates some are left. -/
theorem narrowed_nonempty {s : State} {cands : List (Fin 16)} {u : Fin 16} (hu : u ∈ cands) :
    ∃ v, v ∈ s.narrowed cands := by
  obtain ⟨r, hr⟩ : ∃ r, r ∈ s.releasingFirst cands := by
    by_cases h : ∃ w ∈ cands, s.voices[w].state = .releasing
    · obtain ⟨w, hw, hs⟩ := h
      exact ⟨w, mem_releasingFirst.2 ⟨hw, fun _ _ _ => hs⟩⟩
    · exact ⟨u, mem_releasingFirst.2 ⟨hu, fun w hw hs => absurd ⟨w, hw, hs⟩ h⟩⟩
  obtain ⟨v, hv, hmin⟩ := exists_lowest (fun v : Fin 16 => s.voices[v].priority) (List.ne_nil_of_mem hr)
  exact ⟨v, mem_narrowed.2 ⟨hv, hmin⟩⟩

/-- A search of a list without repeats finds the first of those it looks for. -/
theorem idxOf_le_of_find {l : List (Fin 16)} {p : Fin 16 → Bool} {v w : Fin 16} (hn : l.Nodup)
    (hv : l.find? p = some v) (hp : p w = true) : l.idxOf v ≤ l.idxOf w := by
  obtain ⟨_, i, hi, rfl, hbefore⟩ := List.find?_eq_some_iff_getElem.1 hv
  rw [hn.idxOf_getElem i hi]
  refine Nat.not_lt.1 fun hlt => ?_
  have early := hbefore (l.idxOf w) hlt
  rw [List.getElem_idxOf, hp] at early
  cases early

/-- The candidates that a request looks among. -/
def State.candidates (s : State) (m : Master) (priority : Nat) : List (Fin 16) :=
  voiceNumbers.filter fun v => s.voices[v].inUse && s.candidate m priority v

/-- With every voice in use the candidates are those of R7. -/
theorem mem_candidates {s : State} {m : Master} {priority : Nat} {v : Fin 16}
    (hu : ∀ w : Fin 16, s.voices[w].state ≠ .free) :
    v ∈ s.candidates m priority ↔ mayTake s m priority v := by
  rw [State.candidates, List.mem_filter, Bool.and_eq_true_iff, candidate_iff]
  exact ⟨fun h => h.2.2, fun h => ⟨List.mem_finRange v, by simpa [Voice.inUse] using hu v, h⟩⟩

theorem victim_eq (s : State) (m : Master) (priority : Nat) :
    s.victim m priority = s.age.find? fun v => (s.narrowed (s.candidates m priority)).contains v := rfl

/-- Settles O19: what is left after the two tests is what R8 asks for, and the search of the age list takes the
oldest. -/
theorem victimChosen : Obligations.VictimChosen := by
  intro m priority s ⟨hn, hm, _⟩ hu
  have aged : ∀ w : Fin 16, w ∈ s.age := fun w => (hm w).2 (by simpa [Voice.inUse] using hu w)
  rw [victim_eq]
  refine ⟨fun hnone w hw => ?_, fun v hv => ?_⟩
  · obtain ⟨u, hk⟩ := narrowed_nonempty (s := s) ((mem_candidates hu).2 hw)
    exact List.find?_eq_none.1 hnone u (aged u) (List.contains_iff_mem.2 hk)
  · have kept := mem_narrowed.1 (List.contains_iff_mem.1 (List.find?_some hv))
    obtain ⟨hfirst, hlow⟩ := kept
    obtain ⟨hcand, hrel⟩ := mem_releasingFirst.1 hfirst
    refine ⟨(mem_candidates hu).1 hcand, fun w hw => hrel w ((mem_candidates hu).2 hw), fun w hw himp => ?_⟩
    have first : w ∈ s.releasingFirst (s.candidates m priority) :=
      mem_releasingFirst.2 ⟨(mem_candidates hu).2 hw, fun x hx hr => himp (hrel x hx hr)⟩
    rcases Nat.lt_or_eq_of_le (hlow w first) with hlt | heq
    · exact .inl hlt
    · have narrowed : w ∈ s.narrowed (s.candidates m priority) :=
        mem_narrowed.2 ⟨first, fun x hx => heq ▸ hlow x hx⟩
      exact .inr ⟨heq, idxOf_le_of_find hn hv (List.contains_iff_mem.2 narrowed)⟩

end Sys2Proof.Machine
end

section
/-! SUPPORT. Reset: what it leaves, and that every invariant holds of it. -/

namespace Sys2Proof.Machine

theorem reset_voices (v : Fin 16) : State.reset.voices[v] = Voice.initial := Vector.getElem_replicate _

theorem reset_channels (v : Fin 16) : State.reset.channels[v] = Channel.initial := Vector.getElem_replicate _

theorem reset_records (i : Fin 8) : State.reset.fl.records[i] = FaultRecord.initial := Vector.getElem_replicate _

theorem reset_queues (m : Master) : State.reset.queues m = Queues.initial := by cases m <;> rfl

/-- Settles O2: each block at reset is its initial value, read item by item. -/
theorem resetLeaves : Obligations.ResetLeaves := by
  refine ⟨by decide, fun v => ?_, by decide, by decide, fun i => ?_, by decide, by decide, fun m => ?_, by decide,
    rfl, rfl, rfl, rfl, rfl, reset_voices, reset_channels, rfl, rfl, rfl, rfl, reset_records, rfl, reset_queues,
    by decide, by decide⟩
  · rw [reset_voices, reset_channels]; decide
  · rw [reset_records]; rfl
  · rw [reset_queues]; decide

/-! ## The invariants at reset -/

theorem initial_leg_safe : LegState.initial.safe := by simp [LegState.safe, LegState.initial]

theorem reset_bridgeSafe : State.reset.bridgeSafe := by
  refine ⟨initial_leg_safe, initial_leg_safe, nofun, fun _ => ⟨rfl, .inl rfl, fun leg => ?_⟩,
    nofun⟩
  cases leg <;> exact ⟨rfl, rfl, rfl⟩

theorem reset_poolSafe : State.reset.poolSafe :=
  poolSafe_of_free rfl fun w => by rw [reset_voices]; rfl

theorem reset_queuesSafe : State.reset.queuesSafe := by
  refine ⟨by decide, by decide, by decide, by decide, fun m => ?_⟩
  cases m <;> decide

theorem reset_clockSafe : State.reset.clockSafe := by
  refine ⟨by decide, by decide, by decide, by decide, by decide, nofun, by decide, by decide,
    by decide, nofun⟩

theorem reset_heldBlocks : State.reset.ss.heldBlocks = [] := by decide

theorem reset_entriesSafe : State.reset.ss.entriesSafe := by
  refine ⟨fun m => ⟨by cases m <;> decide, fun h => absurd rfl h⟩, ⟨by decide, fun h => absurd rfl h⟩, ?_⟩
  intro m t h
  cases m <;> cases h

theorem reset_mountSafe : State.reset.mountSafe := by
  refine ⟨⟨128, by decide⟩, fun h => absurd rfl h, nofun, fun _ => ⟨rfl, rfl, rfl, rfl⟩,
    fun _ => rfl, fun _ => rfl, nofun⟩

theorem reset_storeSafe : State.reset.storeSafe := by
  refine ⟨?_, reset_entriesSafe, nofun, reset_mountSafe⟩
  rw [reset_heldBlocks]
  exact ⟨List.nodup_nil, nofun⟩

/-- Settles O3: nothing is under way at reset, so that each invariant holds of its initial values. -/
theorem resetSafe : Obligations.ResetSafe :=
  ⟨reset_bridgeSafe, ⟨Memory.nil_wf _, Memory.nil_wf _⟩, reset_poolSafe, reset_queuesSafe, reset_clockSafe, rfl,
    reset_storeSafe⟩

end Sys2Proof.Machine

/-! SUPPORT. The completion of a fetch burst (R42, R44, R46). -/

namespace Sys2Proof.Machine

theorem exhausted_iff (c : Channel) : c.exhausted = true ↔ c.toEnd = 0 ∧ c.loopAddr = none := by
  simp [Channel.exhausted]

theorem primed_iff (c : Channel) : c.primed = true ↔
    c.state = .priming ∧ (64 ≤ c.fifo.length ∨ (c.toEnd = 0 ∧ c.loopAddr = none)) := by
  rw [Channel.primed, Bool.and_eq_true_iff, Bool.or_eq_true_iff, exhausted_iff, beq_iff_eq, decide_eq_true_eq]
  rfl

/-- The settled channel differs in its state alone (R44). -/
theorem settle_eq (c : Channel) : c.settle = { c with
    state := if c.primed = true ∨ c.state = .streaming ∧ c.exhausted = true then
      (if c.exhausted = true then .drained else .streaming) else c.state } := by
  unfold Channel.settle
  by_cases hp : c.primed = true
  · simp [hp]
  · by_cases hs : c.state = .streaming ∧ c.exhausted = true
    · simp [hp, hs]
    · rw [if_neg hp, if_neg (by simpa using hs), if_neg (by simp [hp, hs])]

/-- A KEYED voice begins to play, any other stays as it is (R11). -/
theorem startPlaying_eq (x : Voice) : x.startPlaying = if x.state = .keyed then
    (if x.attack = 0 then { x with state := .playing, phase := some .decay, level := 32767 }
      else { x with state := .playing, phase := some .attack }) else x := rfl

theorem putAt_self {α : Type} {n : Nat} (xs : Vector α n) (i : Fin n) : putAt xs i xs[i] = xs := by
  simp [putAt]

/-- A burst for a use of the voice that has ended: its bytes are dropped with the mark (R46). -/
theorem deliverFetch_dropped {s : State} {v : Fin 16} {bytes : List Byte} (h : s.channels[v].discard = true) :
    s.deliverFetch v bytes = { s with
      channels := putAt s.channels v { s.channels[v] with discard := false, inFlight := false } } := if_pos h

/-- A burst whose bytes count (R42, R44): they enter the channel, which is settled, and on the priming report the
voice plays. -/
theorem deliverFetch_counts {s : State} {v : Fin 16} {bytes : List Byte} (h : ¬s.channels[v].discard = true) :
    s.deliverFetch v bytes = { s with
      channels := putAt s.channels v (s.channels[v].receive bytes).settle
      voices := putAt s.voices v (if (s.channels[v].receive bytes).primed = true then s.voices[v].startPlaying
        else s.voices[v]) } := by
  unfold State.deliverFetch
  dsimp only
  rw [if_neg h]
  split
  · rfl
  · rw [putAt_self]; rfl

/-- A choice by two conditions, made one after the other. -/
theorem ite_both {α : Sort _} {p q : Prop} [Decidable p] [Decidable q] (a b : α) :
    (if p ∧ q then a else b) = if p then if q then a else b else b := by
  by_cases hp : p
  · by_cases hq : q
    · rw [if_pos ⟨hp, hq⟩, if_pos hp, if_pos hq]
    · rw [if_neg fun h => hq h.2, if_pos hp, if_neg hq]
  · rw [if_neg fun h => hp h.1, if_neg hp]

/-- Settles O32: the channel's mark decides whether the bytes count, and the report whether the voice plays. -/
theorem fetchBurstDelivers : Obligations.FetchBurstDelivers := by
  refine ⟨fun s v addr len hp hi ha => ?_, fun s hi => ?_⟩
  · have answered : exec .fetchBurstComplete s = .next
        ((s.busFree.deliverFetch v (s.rom.readBytes romBlank addr len)).arbitrate) := by
      show execFetchBurstComplete s = _
      unfold execFetchBurstComplete
      rw [if_pos hp, hi]
      exact if_pos ha
    rw [answered]
    dsimp only
    generalize s.rom.readBytes romBlank addr len = bytes
    by_cases hd : s.channels[v].discard = true
    · rw [if_pos hd, deliverFetch_dropped (s := s.busFree) hd]
      rfl
    · rw [if_neg hd, deliverFetch_counts (s := s.busFree) hd, settle_eq, startPlaying_eq]
      simp only [primed_iff, exhausted_iff, State.busFree_channels, State.busFree_voices, Channel.receive,
        ite_both]
      rfl
  · show execFetchBurstComplete s = _
    unfold execFetchBurstComplete
    split
    · split
      · next v a l h => exact absurd h (hi v a l)
      · rfl
    · rfl

end Sys2Proof.Machine
end

section
/-! SUPPORT. Runs of bytes in a memory: what a read finds after several writes, and the bytes of a run. -/

namespace Sys2Proof.Machine

/-- A read after a run of writes gives the byte of the run at its place, and outside the run what was there. -/
theorem Memory.read_writeBytes {d : Byte} (bytes : List Byte) {m : Memory} (a b : Nat) (h : Memory.wf d m) :
    Memory.read d (Memory.writeBytes d m a bytes) b =
      if a ≤ b ∧ b < a + bytes.length then (bytes[b - a]?).getD d else Memory.read d m b := by
  induction bytes generalizing m a with
  | nil => rw [if_neg (by simp)]; rfl
  | cons v rest ih =>
    rw [Memory.writeBytes, ih (a + 1) (Memory.write_wf a v h), Memory.read_write a b v h, List.length_cons]
    by_cases hba : b = a
    · subst hba
      rw [if_neg (by omega), if_pos rfl, if_pos (by omega), Nat.sub_self]
      rfl
    · by_cases hin : a + 1 ≤ b ∧ b < a + 1 + rest.length
      · obtain ⟨k, rfl⟩ := Nat.exists_eq_add_of_le hin.1
        rw [if_pos hin, if_pos (by omega), Nat.add_sub_cancel_left, show a + 1 + k - a = k + 1 by omega,
          List.getElem?_cons_succ]
      · rw [if_neg hin, if_neg hba, if_neg (by omega)]

theorem Memory.readBytes_length (d : Byte) (m : Memory) (a n : Nat) : (Memory.readBytes d m a n).length = n := by
  induction n generalizing a with
  | zero => rfl
  | succ n ih => rw [Memory.readBytes, List.length_cons, ih]

/-- Byte `i` of a run is the byte at its address. -/
theorem Memory.readBytes_getElem? {d : Byte} {m : Memory} {a n i : Nat} (h : i < n) :
    (Memory.readBytes d m a n)[i]? = some (Memory.read d m (a + i)) := by
  induction n generalizing a i with
  | zero => omega
  | succ n ih =>
    cases i with
    | zero => rfl
    | succ i => rw [Memory.readBytes, List.getElem?_cons_succ, ih (by omega), Nat.add_assoc, Nat.add_comm 1 i]

/-- A run is its front and its last byte. -/
theorem Memory.readBytes_succ (d : Byte) (m : Memory) (a n : Nat) :
    Memory.readBytes d m a (n + 1) = Memory.readBytes d m a n ++ [Memory.read d m (a + n)] := by
  induction n generalizing a with
  | zero => rfl
  | succ n ih =>
    rw [Memory.readBytes, ih (a + 1), Memory.readBytes, List.cons_append, Nat.add_assoc, Nat.add_comm 1 n]

/-- A write beyond a run leaves it. -/
theorem Memory.readBytes_write_beyond {d : Byte} {m : Memory} {a n b : Nat} (v : Byte) (h : Memory.wf d m)
    (hb : a + n ≤ b) : Memory.readBytes d (Memory.write d m b v) a n = Memory.readBytes d m a n := by
  induction n generalizing a with
  | zero => rfl
  | succ n ih =>
    rw [Memory.readBytes, Memory.readBytes, ih (by omega), Memory.read_write b a v h, if_neg (by omega)]

/-! ## A torn page (R98, R155) -/

/-- The last byte of a page is the upper half of its check, which the check's CRC does not cover. -/
theorem pageValid_last {front : List Byte} {x y : Byte} (hf : front.length = 2047)
    (hx : pageValid (front ++ [x]) = true) (hy : pageValid (front ++ [y]) = true) : x = y := by
  have check : ∀ z : Byte, pageValid (front ++ [z]) = true →
      (front[2046]?.getD 0).toNat + 256 * z.toNat = (crc16 (front.take 2046)).toNat := by
    intro z hz
    have covered : (front ++ [z]).take (trailerAt + 4) = front.take 2046 :=
      List.take_append_of_le_length (by simp [trailerAt, pageSize, hf])
    have tail : (front ++ [z]).drop (trailerAt + 4) = [front[2046]?.getD 0, z] := by
      rw [List.drop_append_of_le_length (by simp [trailerAt, pageSize, hf]), show trailerAt + 4 = 2046 from rfl,
        List.drop_eq_getElem_cons (by omega), List.drop_of_length_le (by omega)]
      simp [hf]
    obtain ⟨_, hcheck⟩ := Bool.and_eq_true_iff.1 hz
    rw [covered, beq_iff_eq, field, tail] at hcheck
    simpa [leNat] using hcheck
  have := check x hx
  have := check y hy
  exact BitVec.eq_of_toNat_eq (by omega)

/-- A page whose last byte is inverted is not valid where it was (log entry 8). -/
theorem pageValid_inverted {m : Memory} {a : Nat} (h : Memory.wf sramBlank m)
    (hv : pageValid (m.readBytes sramBlank a 2048) = true) :
    pageValid (Memory.readBytes sramBlank
      (m.write sramBlank (a + 2047) (~~~m.read sramBlank (a + 2047))) a 2048) = false := by
  rw [Memory.readBytes_succ] at hv ⊢
  rw [Memory.readBytes_write_beyond _ h (Nat.le_refl _), Memory.read_write _ _ _ h, if_pos rfl]
  refine Bool.eq_false_iff.2 fun hc => ?_
  have same := pageValid_last (Memory.readBytes_length _ _ _ _) hv hc
  generalize Memory.read sramBlank m (a + 2047) = x at same
  revert same
  revert x
  decide

end Sys2Proof.Machine
end

section
/-! SUPPORT. Console reset, its release, and the supply failing: what each leaves (R20, R46, R58, R154, R155, R161). -/

namespace Sys2Proof.Machine

/-! ## Console reset -/

/-- A voice record after console reset keeps its generation and the fields of its last use (R20). -/
theorem afterReset_eq (x : Voice) : x.afterReset = { x with
    state := .free, level := 0, starve := 0, last := ⟨0, 0, 0⟩
    pendingStep := none, pendingVolume := none, pendingPan := none
    phase := if x.state ≠ .free then none else x.phase
    endReason := if x.state ≠ .free then some .reset else x.endReason } := by
  unfold Voice.afterReset
  by_cases h : x.state = .free
  · have unused : ¬x.inUse = true := by simp [Voice.inUse, h]
    rw [if_neg unused, if_neg (Classical.not_not.2 h), if_neg (Classical.not_not.2 h), ← h]
    rfl
  · have used : x.inUse = true := by simpa [Voice.inUse] using h
    rw [if_pos used, if_pos h, if_pos h]
    rfl

/-- A burst of a page write runs on as it is; any other store burst is marked (R161). -/
theorem afterReset_page {op : StoreOp} {d : Bool} {i : Nat} (h : op.owner = .page i) :
    (Burst.store op d).afterReset = .store op d := by simp [Burst.afterReset, OpOwner.isPage, h]

theorem afterReset_store {op : StoreOp} {d : Bool} (h : ∀ i, op.owner ≠ .page i) :
    (Burst.store op d).afterReset = .store op true := by
  have other : op.owner.isPage = false := by
    cases ho : op.owner with
    | page i => exact absurd ho (h i)
    | _ => rfl
  simp [Burst.afterReset, other]

/-! ## The supply failing -/

/-- Both gates asked off: a leg conducts nothing, and the guard records a gate that was on (R58). -/
theorem follow_off (l : LegState) (td : Nat) :
    (l.follow td false false).high = false ∧ (l.follow td false false).low = false
      ∧ (l.follow td false false).guard = if l.low = true then ⟨td, some .low⟩
        else if l.high = true then ⟨td, some .high⟩ else l.guard := by
  obtain ⟨high, low, guard⟩ := l
  cases high <;> cases low <;> exact ⟨rfl, rfl, rfl⟩

/-- A latched cutoff forces the driver, and posts (R65, R67). -/
theorem latchCutoff_eq (s : State) (x : MotorReason) : ∃ fl g y, s.latchCutoff x =
    { s with rd := s.rd.force s.bl.cfg.td .cutoff, fl := fl, game := g, sys := y } := by
  obtain ⟨fl, g, y, h⟩ := postFault_frame
    (({ s with rd := s.rd.force s.bl.cfg.td .cutoff } : State).postMotor x) .motorCutoff .both none
  exact ⟨fl, g, y, h⟩

/-- Cutting a burst off changes SRAM, the bus and the count of free values drawn. -/
theorem cutBurst_frame (s : State) :
    ∃ m p n, s.cutBurst = { s with sram := m, pma := p, free := n } := by
  unfold State.cutBurst
  dsimp only
  split
  · split
    · split <;> exact ⟨_, _, _, rfl⟩
    · exact ⟨_, _, _, rfl⟩
  · exact ⟨_, _, _, rfl⟩

theorem tearPage_frame (s : State) : ∃ m, s.tearPage = { s with sram := m } := by
  unfold State.tearPage
  split
  · exact ⟨_, rfl⟩
  · split <;> exact ⟨_, rfl⟩

theorem cutWrites_frame (s : State) :
    ∃ m p n, s.cutWrites = { s with sram := m, pma := p, free := n } := by
  obtain ⟨m, p, n, h⟩ := cutBurst_frame s
  unfold State.cutWrites
  dsimp only
  split
  · obtain ⟨m', h'⟩ := tearPage_frame s.cutBurst
    exact ⟨m', p, n, by rw [h', h]⟩
  · exact ⟨m, p, n, h⟩

/-- What SUPPLY_FAILING leaves: SRAM as the cut has left it, the gate closed, the driver forced off, the line silent,
the supply state; the bus, the log, the ports and what the link carried may change with it (R154, R155). -/
theorem exec_supplyFailing {s : State} (able : Bool) (h : s.powered = true) : ∃ p n out fl g y,
    exec (.supplyFailing able) s = .next { s with
      sram := s.cutWrites.sram, pma := p, free := n, linkOut := out, fl := fl, game := g, sys := y
      bd := { s.bd with gateOpen := false }, mx := s.mx.silence, rd := s.rd.force s.bl.cfg.td .cutoff
      bm := { s.bm with supply := if able then .batteryHold else .batteryLost } } := by
  obtain ⟨m, p, n, hc⟩ := cutWrites_frame s
  show ∃ p n out fl g y, execSupplyFailing able s = _
  unfold execSupplyFailing
  rw [if_pos h, hc]
  dsimp only
  generalize hu : ({ s with sram := m, pma := p, free := n, bd := _, mx := _, linkOut := _ } : State) = u
  obtain ⟨fl, g, y, hl⟩ := latchCutoff_eq u .supplyFailing
  rw [hl, ← hu]
  exact ⟨p, n, _, fl, g, y, rfl⟩

/-! ## What the cut leaves in SRAM -/

/-- A page write of which a burst has been granted (R98). -/
theorem pageBegun_iff (s : State) : s.pageBegun = true ↔ ∃ w, s.ss.pageWrite = some w
    ∧ (w.left < 64 ∨ ∃ op d i, s.pma.inFlight = some (.store op d) ∧ op.owner = .page i) := by
  have isPage : ∀ o : OpOwner, o.isPage = true ↔ ∃ i, o = .page i := by
    intro o
    cases o <;> simp [OpOwner.isPage]
  have flying : (match s.pma.inFlight with
      | some (.store op _) => op.owner.isPage
      | _ => false) = true ↔ ∃ op d i, s.pma.inFlight = some (.store op d) ∧ op.owner = .page i := by
    split
    · next op d hi =>
      rw [isPage]
      exact ⟨fun ⟨i, ho⟩ => ⟨op, d, i, hi, ho⟩, fun ⟨_, _, i, hj, ho⟩ => by
        rw [hi] at hj; cases hj; exact ⟨i, ho⟩⟩
    · next hn => exact ⟨nofun, fun ⟨op, d, _, hj, _⟩ => absurd hj (hn op d)⟩
  unfold State.pageBegun
  split
  · next hw => exact ⟨nofun, fun ⟨w, hj, _⟩ => by rw [hw] at hj; cases hj⟩
  · next w hw =>
    refine (Bool.or_eq_true_iff.trans (or_congr decide_eq_true_iff flying)).trans ?_
    exact ⟨fun h => ⟨w, hw, h⟩, fun ⟨_, hj, h⟩ => by rw [hw] at hj; cases hj; exact h⟩

/-- Byte `i` of a cut burst is the byte that was there or the byte written (R155). -/
theorem cutBytes_get (k : Nat) (old new : List Byte) {i : Nat} (h : i < 32) :
    (cutBytes k old new)[i]? = some (old[i]?.getD 0) ∨ (cutBytes k old new)[i]? = some (new[i]?.getD 0) := by
  have at_i : (cutBytes k old new)[i]? =
      some (if Config.cutByteWritten k i then new[i]?.getD 0 else old[i]?.getD 0) := by
    simp [cutBytes, burstBytes, h]
  rw [at_i]
  cases Config.cutByteWritten k i
  · exact .inl rfl
  · exact .inr rfl

theorem cutBytes_length (k : Nat) (old new : List Byte) : (cutBytes k old new).length = 32 := by
  simp [cutBytes, burstBytes]

/-- The cut leaves SRAM as it is, or writes some of the bytes of the write burst in flight (R155). -/
theorem cutBurst_sram (s : State) : s.cutBurst.sram = s.sram ∨
    ∃ op d bytes k, s.bd.gateOpen = true ∧ s.pma.inFlight = some (.store op d) ∧ op.bytes = some bytes
      ∧ s.cutBurst.sram = s.sram.writeBytes sramBlank op.addr (cutBytes k (s.readBurst op) bytes) := by
  unfold State.cutBurst
  dsimp only
  split
  · next op d hi =>
    split
    · next bytes hb =>
      split
      · next hg =>
        refine .inr ⟨op, d, bytes, s.free, (Bool.and_eq_true_iff.1 hg).1, hi, hb, ?_⟩
        dsimp only [State.draw, State.busFree]
      · exact .inl rfl
    · exact .inl rfl
  · exact .inl rfl

/-- A byte of SRAM after the burst in flight was cut: as it was, or one that the burst was writing (R155). -/
theorem cutBurst_read {s : State} (h : Memory.wf sramBlank s.sram) (a : Nat) :
    s.cutBurst.sram.read sramBlank a = s.sram.read sramBlank a
      ∨ (s.bd.gateOpen = true ∧ ∃ op d bytes, s.pma.inFlight = some (.store op d)
        ∧ op.bytes = some bytes ∧ op.addr ≤ a ∧ a < op.addr + 32
        ∧ s.cutBurst.sram.read sramBlank a = (bytes[a - op.addr]?).getD 0) := by
  rcases cutBurst_sram s with hs | ⟨op, d, bytes, k, hg, hi, hb, hs⟩
  · exact .inl (by rw [hs])
  · rw [hs, Memory.read_writeBytes _ _ _ h, cutBytes_length]
    by_cases hin : op.addr ≤ a ∧ a < op.addr + 32
    · rw [if_pos hin]
      have old : (s.readBurst op)[a - op.addr]? = some (s.sram.read sramBlank a) := by
        rw [State.readBurst, Memory.readBytes_getElem? (show a - op.addr < burstBytes by
          unfold burstBytes; omega), Nat.add_sub_cancel' hin.1]
      rcases cutBytes_get k (s.readBurst op) bytes (i := a - op.addr) (by omega) with hc | hc
      · exact .inl (by rw [hc, old]; rfl)
      · exact .inr ⟨hg, op, d, bytes, hi, hb, hin.1, hin.2, by rw [hc]; rfl⟩
    · exact .inl (if_neg hin)

theorem cutBurst_wf {s : State} (h : Memory.wf sramBlank s.sram) : Memory.wf sramBlank s.cutBurst.sram := by
  rcases cutBurst_sram s with hs | ⟨_, _, _, _, _, _, _, hs⟩
  · rw [hs]; exact h
  · rw [hs]; exact Memory.writeBytes_wf _ _ _ h

/-- A torn page is not valid, and of SRAM its last byte alone is changed by that (R98, R155). -/
theorem tearPage_spec {s : State} {w : PageWrite} (h : Memory.wf sramBlank s.sram)
    (hw : s.ss.pageWrite = some w) :
    pageValid (s.tearPage.sram.readBytes sramBlank (pageBase w.target) 2048) = false
      ∧ ∀ a, s.tearPage.sram.read sramBlank a = s.sram.read sramBlank a ∨ a = pageBase w.target + 2047 := by
  unfold State.tearPage
  rw [hw]
  dsimp only
  split
  · next hv =>
    refine ⟨pageValid_inverted h hv, fun a => ?_⟩
    by_cases ha : a = pageBase w.target + 2047
    · exact .inr ha
    · exact .inl (by
        dsimp only
        rw [Memory.read_write _ _ _ h]
        exact if_neg ha)
  · next hv => exact ⟨Bool.eq_false_iff.2 hv, fun a => .inl rfl⟩

/-- What the supply failing leaves of SRAM (R98, R136, R155). -/
theorem cutWrites_spec {s : State} (h : Memory.wf sramBlank s.sram) :
    let begun (w : PageWrite) := s.ss.pageWrite = some w
      ∧ (w.left < 64 ∨ ∃ op d i, s.pma.inFlight = some (.store op d) ∧ op.owner = .page i)
    (∀ w, begun w → pageValid (s.cutWrites.sram.readBytes sramBlank (pageBase w.target) 2048) = false)
    ∧ ∀ a, s.cutWrites.sram.read sramBlank a = s.sram.read sramBlank a
      ∨ (s.bd.gateOpen = true ∧ ∃ op d bytes, s.pma.inFlight = some (.store op d)
        ∧ op.bytes = some bytes ∧ op.addr ≤ a ∧ a < op.addr + 32
        ∧ s.cutWrites.sram.read sramBlank a = (bytes[a - op.addr]?).getD 0)
      ∨ ∃ w, begun w ∧ a = pageBase w.target + 2047 := by
  dsimp only
  have cut := cutBurst_read h
  unfold State.cutWrites
  dsimp only
  by_cases hb : s.pageBegun = true
  · rw [if_pos hb]
    obtain ⟨w, hw, hs⟩ := (pageBegun_iff s).1 hb
    obtain ⟨m, p, n, hf⟩ := cutBurst_frame s
    obtain ⟨hv, ha⟩ := tearPage_spec (cutBurst_wf h) (show s.cutBurst.ss.pageWrite = some w by rw [hf]; exact hw)
    refine ⟨fun u ⟨hu, _⟩ => ?_, fun a => ?_⟩
    · rw [hw] at hu
      cases hu
      exact hv
    · rcases ha a with he | he
      · rw [he]
        exact (cut a).imp_right .inl
      · exact .inr (.inr ⟨w, ⟨hw, hs⟩, he⟩)
  · rw [if_neg hb]
    exact ⟨fun w hw => absurd ((pageBegun_iff s).2 ⟨w, hw⟩) hb, fun a => (cut a).imp_right .inl⟩

/-- Without the console supply no request is taken (R154). -/
theorem request_unpowered {t : State} {m : Master} {tag : Byte} {q : Req} {c : Instr} (h : t.powered = false)
    (hc : requestCommand m tag q = some c) : exec c t = .next t := by
  have off : ∀ q, receive m tag q t = .next t := fun _ => if_neg (by simp [h])
  cases q <;> cases hc <;> exact off _

/-- Settles O60: the reset, the release, HELD, the supply failing and the battery's events, each by its own rule. -/
theorem resetAndSupply : Obligations.ResetAndSupply := by
  refine ⟨fun s hp => ⟨_, if_pos hp, fun v => ?_, rfl, rfl, ?_, ?_, ?_, ?_, ?_, rfl⟩, fun s hp hh => ?_,
    fun able s hp => ?_, fun s hs => if_pos hs, fun s hs => ⟨if_pos hs, if_pos hs⟩⟩
  · have record : (s.voices.map Voice.afterReset)[v] = s.voices[v].afterReset := Vector.getElem_map ..
    have channel : (s.channels.map Channel.afterReset)[v] = s.channels[v].afterReset := Vector.getElem_map ..
    dsimp only
    rw [record, channel, afterReset_eq]
    exact ⟨rfl, rfl, rfl, rfl, rfl, rfl, rfl, rfl, rfl, rfl, rfl, rfl, rfl, rfl, rfl⟩
  · exact Option.map_eq_none_iff
  · intro v addr len hi
    dsimp only
    rw [hi]
    rfl
  · intro op d i hi ho
    dsimp only
    rw [hi, Option.map_some, afterReset_page ho]
  · intro op d hi ho
    dsimp only
    rw [hi, Option.map_some, afterReset_store ho]
  · intro i d hi
    dsimp only
    rw [hi]
    rfl
  · have held : (s.powered && s.bl.phase == .held) = true := by simp [hp, hh]
    refine ⟨fun hw => ?_, fun hw => ?_, ?_⟩
    · show execResetRelease s = _
      unfold execResetRelease
      rw [if_pos held, if_pos hw]
    · show execResetRelease s = _
      unfold execResetRelease
      rw [if_pos held, if_neg (by simp [hw])]
      rfl
    · show execAudioFrame s = _
      unfold execAudioFrame
      rw [if_pos hp, if_pos hh]
      rfl
  · obtain ⟨p, n, out, fl, g, y, ht⟩ := exec_supplyFailing able hp
    obtain ⟨ah, al, ag⟩ := follow_off s.rd.legA s.bl.cfg.td
    obtain ⟨bh, bl, bg⟩ := follow_off s.rd.legB s.bl.cfg.td
    refine ⟨_, ht, rfl, rfl, rfl, rfl, rfl, ah, al, bh, bl, rfl, rfl, audioLine_silent rfl rfl, rfl, ?_,
      fun hwf => ?_, fun m tag q c hc => request_unpowered ?_ hc⟩
    · intro leg
      cases leg
      · exact ag
      · exact bg
    · exact cutWrites_spec hwf
    · cases able <;> rfl

end Sys2Proof.Machine
end

section
/-! SUPPORT. A round of the voices: the mixer tick takes the sixteen voices one after another, and each voice's part
looks at its own record and mark alone, so that the round does to every voice what its part does to it (R35). -/

namespace Sys2Proof.Machine

/-! ## The pool and the channels of a state, and what reports leave of them -/

/-- The state with the voices, the age list and the channels as given. -/
def State.withPool (s : State) (vs : Vector Voice 16) (ag : List (Fin 16)) (ch : Vector Channel 16) : State :=
  { s with voices := vs, age := ag, channels := ch }

/-- An operation that reports: it changes the fault log and the ports alone, and asks nothing of the voices, the age
list and the channels. -/
def Reports (f : State → State) : Prop :=
  ∀ s, (∃ fl g y, f s = { s with fl := fl, game := g, sys := y })
    ∧ ∀ vs ag ch, f (s.withPool vs ag ch) = (f s).withPool vs ag ch

theorem reports_id : Reports id := fun _ => ⟨⟨_, _, _, rfl⟩, fun _ _ _ => rfl⟩

theorem Reports.comp {f g : State → State} (hf : Reports f) (hg : Reports g) : Reports (f ∘ g) := by
  intro s
  obtain ⟨⟨fl, ga, sy, h⟩, hc⟩ := hg s
  obtain ⟨⟨fl', ga', sy', h'⟩, hc'⟩ := hf (g s)
  refine ⟨⟨fl', ga', sy', ?_⟩, fun vs ag ch => ?_⟩
  · rw [Function.comp_apply, h', h]
  · rw [Function.comp_apply, hc, hc', Function.comp_apply]

theorem reports_foldl {α : Type} {f : State → α → State} (hf : ∀ a, Reports (f · a)) (l : List α) :
    Reports (l.foldl f ·) := by
  induction l with
  | nil => exact reports_id
  | cons a rest ih => exact ih.comp (hf a)

theorem reports_post (m : Master) (n : Notice) : Reports (·.post m n) :=
  fun s => ⟨⟨s.fl, by
    obtain ⟨g, y, h⟩ := post_frame s m n
    exact ⟨g, y, h⟩⟩, fun _ _ _ => by cases m <;> rfl⟩

theorem faultNotice_withPool (s : State) (b : FaultLog) (i : Fin 8) (m : Master) (vs ag ch) :
    (s.withPool vs ag ch).faultNotice b i m = (s.faultNotice b i m).withPool vs ag ch := by
  unfold State.faultNotice
  dsimp only [State.withPool]
  split
  · cases m <;> rfl
  · rfl

theorem recordFault_withPool (s : State) (fl : FaultLog) (i : Fin 8) (vs ag ch) :
    (s.withPool vs ag ch).recordFault fl i = (s.recordFault fl i).withPool vs ag ch := by
  unfold State.recordFault
  dsimp only
  rw [← faultNotice_withPool, ← faultNotice_withPool]
  rfl

theorem writeFault_withPool (s : State) (k : FaultKind) (c : Concerned) (x : Option Nat) (vs ag ch) :
    (s.withPool vs ag ch).writeFault k c x = (s.writeFault k c x).withPool vs ag ch := by
  unfold State.writeFault
  dsimp only
  split
  · next h => rw [if_pos (show s.fl.records[s.fl.w].valid = true from h)]; rfl
  · next h =>
    rw [if_neg (show ¬s.fl.records[s.fl.w].valid = true from h), recordFault_withPool]
    rfl

theorem postFault_withPool (s : State) (k : FaultKind) (c : Concerned) (x : Option Nat) (vs ag ch) :
    (s.withPool vs ag ch).postFault k c x = (s.postFault k c x).withPool vs ag ch := by
  have same : (s.withPool vs ag ch).fl = s.fl := rfl
  unfold State.postFault
  rw [same, writeFault_withPool]
  split
  · rfl
  · split
    · split
      · rw [recordFault_withPool]
      · rfl
    · rfl

theorem reports_postFault (k : FaultKind) (c : Concerned) (x : Option Nat) : Reports (·.postFault k c x) :=
  fun s => ⟨postFault_frame s k c x, postFault_withPool s k c x⟩

/-! ## A round -/

/-- What a round does to one voice: the record it leaves, whether the voice ends, and what is reported of an end, each
from the voice's record, and the first two from its underrun mark. -/
structure VoiceRound where
  record : Bool → Voice → Voice
  ends : Bool → Voice → Bool
  report : Voice → Fin 16 → State → State

/-- A voice ends in the round, as the state stands. -/
def VoiceRound.endsIn (r : VoiceRound) (s : State) (v : Fin 16) : Bool := r.ends s.mx.marks[v] s.voices[v]

/-- One voice's part in a round: a voice that ends leaves the age list and its channel stops. -/
def VoiceRound.part (r : VoiceRound) (s : State) (v : Fin 16) : State :=
  let vs := putAt s.voices v (r.record s.mx.marks[v] s.voices[v])
  if r.endsIn s v then
    r.report s.voices[v] v (s.withPool vs (s.age.filter (· != v)) (putAt s.channels v s.channels[v].stop))
  else s.withPool vs s.age s.channels

/-- The reports, one after another, of the voices of a list that end as a state stands. -/
def VoiceRound.reports (r : VoiceRound) (s : State) (l : List (Fin 16)) (t : State) : State :=
  (l.filter (r.endsIn s)).foldl (fun t v => r.report s.voices[v] v t) t

theorem VoiceRound.reports_cons (r : VoiceRound) (s : State) (v : Fin 16) (l : List (Fin 16)) (t : State) :
    r.reports s (v :: l) t = r.reports s l (r.reports s [v] t) := by
  by_cases he : r.endsIn s v = true
  · simp [VoiceRound.reports, he]
  · simp [VoiceRound.reports, he]

theorem VoiceRound.reports_reports {r : VoiceRound} (hr : ∀ x v, Reports (r.report x v)) (s : State)
    (l : List (Fin 16)) : Reports (r.reports s l) := reports_foldl (fun v => hr s.voices[v] v) _

/-- Two folds whose steps agree on the list agree. -/
theorem foldl_same {α β : Type} {l : List α} {f g : β → α → β} (h : ∀ b, ∀ a ∈ l, f b a = g b a) {b : β} :
    l.foldl f b = l.foldl g b :=
  List.foldl_rel (r := Eq) rfl fun a ha c _ same => same ▸ h c a ha

/-- The reports rest on the marks and on the records of the voices listed. -/
theorem VoiceRound.reports_congr (r : VoiceRound) {s s' : State} {l : List (Fin 16)} (hm : s'.mx = s.mx)
    (hv : ∀ w ∈ l, s'.voices[w] = s.voices[w]) : r.reports s' l = r.reports s l := by
  funext t
  have ends : l.filter (r.endsIn s') = l.filter (r.endsIn s) :=
    List.filter_congr fun w hw => by rw [VoiceRound.endsIn, hm, hv w hw]; rfl
  unfold VoiceRound.reports
  rw [ends]
  exact foldl_same fun _ w hw => by rw [hv w (List.mem_filter.1 hw).1]

theorem getElem_putAt {α : Type} {n : Nat} (xs : Vector α n) (i j : Fin n) (x : α) :
    (putAt xs i x)[j] = if j = i then x else xs[j] := by
  by_cases h : j = i
  · rw [if_pos h, h, putAt_same]
  · rw [if_neg h, putAt_other _ _ _ _ (Ne.symm h)]

/-- The part is a report followed by what it does to the voice. -/
theorem VoiceRound.part_eq {r : VoiceRound} (hr : ∀ x v, Reports (r.report x v)) (s : State) (v : Fin 16) :
    r.part s v = (r.reports s [v] s).withPool (putAt s.voices v (r.record s.mx.marks[v] s.voices[v]))
      (s.age.filter fun w => !(w == v && r.endsIn s w))
      (if r.endsIn s v then putAt s.channels v s.channels[v].stop else s.channels) := by
  unfold VoiceRound.part
  dsimp only
  by_cases he : r.endsIn s v = true
  · have age : s.age.filter (· != v) = s.age.filter fun w => !(w == v && r.endsIn s w) := by
      refine List.filter_congr fun w _ => ?_
      by_cases hw : w = v
      · simp [hw, he]
      · rw [bne, beq_false_of_ne hw, Bool.false_and]
    have told : r.reports s [v] s = r.report s.voices[v] v s := by simp [VoiceRound.reports, he]
    rw [if_pos he, if_pos he, (hr _ _ s).2, age, told]
  · have age : (s.age.filter fun w => !(w == v && r.endsIn s w)) = s.age := by
      refine List.filter_eq_self.2 fun w _ => ?_
      by_cases hw : w = v <;> simp [hw, he]
    have told : r.reports s [v] s = s := by simp [VoiceRound.reports, he]
    rw [if_neg he, if_neg he, age, told]

theorem VoiceRound.part_mx {r : VoiceRound} (hr : ∀ x v, Reports (r.report x v)) (s : State) (v : Fin 16) :
    (r.part s v).mx = s.mx := by
  obtain ⟨fl, g, y, h⟩ := (r.reports_reports hr s [v] s).1
  rw [r.part_eq hr, h]
  rfl

/-- A round does to each of its voices what its part does to it. -/
theorem VoiceRound.foldl_part {r : VoiceRound} (hr : ∀ x v, Reports (r.report x v)) {l : List (Fin 16)}
    (hn : l.Nodup) (s : State) : ∃ vs ch, l.foldl r.part s = (r.reports s l s).withPool vs
      (s.age.filter fun w => !(l.contains w && r.endsIn s w)) ch
    ∧ ∀ w : Fin 16, vs[w] = (if w ∈ l then r.record s.mx.marks[w] s.voices[w] else s.voices[w])
      ∧ ch[w] = if w ∈ l ∧ r.endsIn s w = true then s.channels[w].stop else s.channels[w] := by
  induction l generalizing s with
  | nil =>
    have age : (s.age.filter fun w => !(([] : List (Fin 16)).contains w && r.endsIn s w)) = s.age :=
      List.filter_eq_self.2 fun _ _ => rfl
    exact ⟨s.voices, s.channels, by rw [age]; rfl, fun w => by simp⟩
  | cons v rest ih =>
    obtain ⟨hv, hrest⟩ := List.nodup_cons.1 hn
    have part := r.part_eq hr s v
    have mx := r.part_mx hr s v
    have record : ∀ w, (r.part s v).voices[w] =
        if w = v then r.record s.mx.marks[v] s.voices[v] else s.voices[w] := fun w => by
      rw [part]; exact getElem_putAt _ _ _ _
    have channel : ∀ w, (r.part s v).channels[w] =
        if w = v ∧ r.endsIn s v = true then s.channels[v].stop else s.channels[w] := fun w => by
      rw [part]
      dsimp only [State.withPool]
      split
      · next he => rw [getElem_putAt]; simp [he]
      · next he => simp [he]
    have same : ∀ w ∈ rest, (r.part s v).voices[w] = s.voices[w] := fun w hw => by
      rw [record, if_neg fun (h : w = v) => hv (h ▸ hw)]
    have ends : ∀ w ∈ rest, r.endsIn (r.part s v) w = r.endsIn s w := fun w hw => by
      rw [VoiceRound.endsIn, mx, same w hw]; rfl
    obtain ⟨vs, ch, hfold, hall⟩ := ih hrest (r.part s v)
    refine ⟨vs, ch, ?_, fun w => ?_⟩
    · have age : ((r.part s v).age.filter fun w => !(rest.contains w && r.endsIn (r.part s v) w)) =
          s.age.filter fun w => !((v :: rest).contains w && r.endsIn s w) := by
        have left : (r.part s v).age = s.age.filter fun w => !(w == v && r.endsIn s w) := by rw [part]; rfl
        rw [left, List.filter_filter]
        refine List.filter_congr fun w _ => ?_
        rw [List.contains_cons]
        by_cases hw : w ∈ rest
        · rw [ends w hw]
          cases r.endsIn s w <;> simp [hw]
        · simp [hw]
      rw [List.foldl_cons, hfold, age, r.reports_congr mx same, r.reports_cons]
      have told : r.reports s rest (r.part s v) = _ :=
        (congrArg (r.reports s rest) part).trans ((r.reports_reports hr s rest _).2 _ _ _)
      rw [told]
      rfl
    · obtain ⟨hvs, hch⟩ := hall w
      rw [hvs, hch, mx, record, channel]
      by_cases hwv : w = v
      · subst hwv
        simp [hv]
      · by_cases hw : w ∈ rest
        · simp [hwv, hw, ends w hw]
        · simp [hwv, hw]

end Sys2Proof.Machine
end

section
/-! SUPPORT. The two rounds of the mixer tick, each as a round of the voices (R35). -/

namespace Sys2Proof.Machine

/-! ## The two rounds -/

/-- Step 2 of the tick: the envelopes, and the end of a RELEASING voice whose E has reached 0 (R12, R14). -/
def envelopeRound : VoiceRound where
  record _ x := match x.state with
    | .playing => x.envelope
    | .releasing =>
      let y := { x with level := x.level - x.release }
      if x.level - x.release = 0 then y.ended .released else y
    | _ => x
  ends _ x := x.state == .releasing && decide (x.level - x.release = 0)
  report x v t := if x.notify then t.post x.owner (.voiceEnded (mkHandle v x.gen) .released) else t

/-- The starve count that a mark gives (R53). -/
def Voice.starveCount (x : Voice) (mark : Bool) : Nat := if mark then x.starve + 1 else 0

/-- Step 3 of the tick: the starve counts, and the end of a voice whose count has reached 3 (R53, R54). -/
def starveRound : VoiceRound where
  record mark x :=
    let y := { x with starve := x.starveCount mark }
    if x.inUse then (if 3 ≤ x.starveCount mark then y.ended .starved else y) else x
  ends mark x := x.inUse && decide (3 ≤ x.starveCount mark)
  report x v t := (t.post x.owner (.voiceEnded (mkHandle v x.gen) .starved)).postFault .voiceStarved
    (concernOf x.owner) (some v.val)

theorem envelopeRound_reports (x : Voice) (v : Fin 16) : Reports (envelopeRound.report x v) := by
  by_cases h : x.notify = true
  · have told : envelopeRound.report x v = (·.post x.owner (.voiceEnded (mkHandle v x.gen) .released)) := by
      funext t; exact if_pos h
    rw [told]
    exact reports_post _ _
  · have told : envelopeRound.report x v = id := by funext t; exact if_neg h
    rw [told]
    exact reports_id

theorem starveRound_reports (x : Voice) (v : Fin 16) : Reports (starveRound.report x v) :=
  (reports_postFault .voiceStarved (concernOf x.owner) (some v.val)).comp
    (reports_post x.owner (.voiceEnded (mkHandle v x.gen) .starved))

/-- Setting a voice to what it is changes nothing. -/
theorem withPool_same (s : State) (v : Fin 16) :
    s.withPool (putAt s.voices v s.voices[v]) s.age s.channels = s := by rw [putAt_self]; rfl

theorem VoiceRound.part_ends {r : VoiceRound} {s : State} {v : Fin 16} (h : r.endsIn s v = true) :
    r.part s v = r.report s.voices[v] v (s.withPool (putAt s.voices v (r.record s.mx.marks[v] s.voices[v]))
      (s.age.filter (· != v)) (putAt s.channels v s.channels[v].stop)) := if_pos h

theorem VoiceRound.part_stays {r : VoiceRound} {s : State} {v : Fin 16} (h : r.endsIn s v = false) :
    r.part s v = s.withPool (putAt s.voices v (r.record s.mx.marks[v] s.voices[v])) s.age s.channels :=
  if_neg (Bool.eq_false_iff.1 h)

/-- A voice whose record is set ends with that record. -/
theorem freeVoice_setVoice (s : State) (v : Fin 16) (y : Voice) (r : EndReason) :
    (s.setVoice v y).freeVoice v r = s.withPool (putAt s.voices v (y.ended r)) (s.age.filter (· != v))
      (putAt s.channels v s.channels[v].stop) := by
  unfold State.freeVoice
  simp only [putAt_same, State.setVoice, putAt_putAt]
  rfl

theorem envelopeVoice_eq (s : State) (v : Fin 16) : s.envelopeVoice v = envelopeRound.part s v := by
  unfold State.envelopeVoice
  dsimp only
  split
  · next h =>
    have record : envelopeRound.record s.mx.marks[v] s.voices[v] = s.voices[v].envelope := by
      simp only [envelopeRound, h]
    rw [VoiceRound.part_stays (by simp only [VoiceRound.endsIn, envelopeRound, h]; rfl), record]
    rfl
  · next h =>
    split
    · next h0 =>
      have record : envelopeRound.record s.mx.marks[v] s.voices[v] =
          ({ s.voices[v] with level := s.voices[v].level - s.voices[v].release } : Voice).ended .released := by
        simp only [envelopeRound, h, h0, if_true]
      have due : envelopeRound.endsIn s v = true := by simp only [VoiceRound.endsIn, envelopeRound, h, h0]; rfl
      rw [VoiceRound.part_ends due, record, ← freeVoice_setVoice]
      unfold State.endVoice
      rw [State.setVoice_voices, putAt_same]
      rfl
    · next h0 =>
      have record : envelopeRound.record s.mx.marks[v] s.voices[v] =
          { s.voices[v] with level := s.voices[v].level - s.voices[v].release } := by
        simp only [envelopeRound, h, h0, if_false]
      have stays : envelopeRound.endsIn s v = false := by
        simp only [VoiceRound.endsIn, envelopeRound, h, h0]; rfl
      rw [VoiceRound.part_stays stays, record]
      rfl
  · next hp hr =>
    have record : envelopeRound.record s.mx.marks[v] s.voices[v] = s.voices[v] := by
      cases h : s.voices[v].state <;> simp_all [envelopeRound]
    have stays : envelopeRound.endsIn s v = false := by
      cases h : s.voices[v].state <;> simp_all [VoiceRound.endsIn, envelopeRound]
    rw [VoiceRound.part_stays stays, record, withPool_same]

/-- A voice in use counts, and ends where the count has reached 3 (R53, R54). -/
theorem starveVoice_count (s : State) (v : Fin 16) : s.starveVoice v =
    let u := s.setVoice v { s.voices[v] with starve := s.voices[v].starveCount s.mx.marks[v] }
    if s.voices[v].inUse = true then
      if 3 ≤ s.voices[v].starveCount s.mx.marks[v] then u.starveOut v else u
    else s := rfl

theorem starveVoice_eq (s : State) (v : Fin 16) : s.starveVoice v = starveRound.part s v := by
  rw [starveVoice_count]
  dsimp only
  by_cases hu : s.voices[v].inUse = true
  · rw [if_pos hu]
    by_cases h3 : 3 ≤ s.voices[v].starveCount s.mx.marks[v]
    · have record : starveRound.record s.mx.marks[v] s.voices[v] =
          ({ s.voices[v] with starve := s.voices[v].starveCount s.mx.marks[v] } : Voice).ended .starved :=
        (if_pos hu).trans (if_pos h3)
      have due : starveRound.endsIn s v = true := Bool.and_eq_true_iff.2 ⟨hu, decide_eq_true h3⟩
      rw [if_pos h3, VoiceRound.part_ends due, record, ← freeVoice_setVoice, State.starveOut,
        endVoice_posts (r := .starved) rfl]
      simp only [State.setVoice_voices, putAt_same]
      rfl
    · have record : starveRound.record s.mx.marks[v] s.voices[v] =
          { s.voices[v] with starve := s.voices[v].starveCount s.mx.marks[v] } :=
        (if_pos hu).trans (if_neg h3)
      have stays : starveRound.endsIn s v = false := Bool.and_eq_false_iff.2 (.inr (decide_eq_false h3))
      rw [if_neg h3, VoiceRound.part_stays stays, record]
      rfl
  · have record : starveRound.record s.mx.marks[v] s.voices[v] = s.voices[v] := if_neg hu
    have stays : starveRound.endsIn s v = false := Bool.and_eq_false_iff.2 (.inl (Bool.eq_false_iff.2 hu))
    rw [if_neg hu, VoiceRound.part_stays stays, record, withPool_same]

end Sys2Proof.Machine
end

section
/-! SUPPORT. What the mixer tick's two rounds make of one voice, and the tick in whole (R12, R14, R17, R35, R53). -/

namespace Sys2Proof.Machine

/-! ## What the two rounds make of one voice -/

/-- The record with the staged parameters taken, where the voice is in use (R17). -/
def Voice.tickStaged (x : Voice) : Voice := if x.inUse then x.applyPending else x

/-- The record with its staged parameters taken and its envelope moved (R12, R14, R17). -/
def Voice.tickMoved (x : Voice) : Voice :=
  match x.state, x.phase with
  | .playing, some .attack => { x.applyPending with
      level := min 32767 (x.level + x.attack)
      phase := if 32767 ≤ x.level + x.attack then some .decay else some .attack }
  | .playing, some .decay => { x.applyPending with
      level := max (x.level - x.decay) x.sustain
      phase := if x.level - x.decay ≤ x.sustain then some .sustain else some .decay }
  | .releasing, _ => { x.applyPending with level := x.level - x.release }
  | _, _ => x.applyPending

/-- A RELEASING voice whose E falls to 0 at this tick (R14). -/
def Voice.tickReleases (x : Voice) : Bool := x.state == .releasing && decide (x.level ≤ x.release)

/-- A voice that starves for the third tick running (R54). -/
def Voice.tickStarves (x : Voice) (mark : Bool) : Bool :=
  x.state != .free && !x.tickReleases && mark && decide (2 ≤ x.starve)

/-- The record of a voice that the tick ends. -/
def Voice.tickGone (x : Voice) (r : EndReason) : Voice :=
  { x.tickMoved with state := .free, phase := none, endReason := some r, level := 0, starve := 0 }

/-- The record that the tick leaves. -/
def Voice.ticked (x : Voice) (mark : Bool) : Voice :=
  if x.state = .free then x else if x.tickReleases then x.tickGone .released
  else if x.tickStarves mark then x.tickGone .starved
  else { x.tickMoved with starve := if mark then x.starve + 1 else 0 }

/-- The phase after an attack or a decay, by where the level has got to (R12). -/
theorem envelope_applyPending {x : Voice} (h : x.state = .playing) : x.applyPending.envelope = x.tickMoved := by
  have attack : min 32767 (x.level + x.attack) = 32767 ↔ 32767 ≤ x.level + x.attack := by omega
  have decay : max (x.level - x.decay) x.sustain = x.sustain ↔ x.level - x.decay ≤ x.sustain := by omega
  unfold Voice.tickMoved
  rw [h]
  cases hp : x.phase with
  | none => simp [Voice.envelope, Voice.applyPending, hp]
  | some p => cases p <;> simp [Voice.envelope, Voice.applyPending, hp, peakLevel, attack, decay]

/-- The envelope's round on a staged record. -/
theorem envelopeRound_record (x : Voice) (mark : Bool) : envelopeRound.record mark x.tickStaged =
    if x.state = .free then x else if x.tickReleases then x.tickMoved.ended .released else x.tickMoved := by
  have pending : x.state ≠ .free → x.tickStaged = x.applyPending := fun h =>
    if_pos (by simpa [Voice.inUse] using h)
  cases h : x.state with
  | free => simp [envelopeRound, Voice.tickStaged, Voice.inUse, h]
  | keyed =>
    rw [pending (by simp [h])]
    simp [envelopeRound, Voice.applyPending, Voice.tickReleases, Voice.tickMoved, h]
  | playing =>
    have moved := envelope_applyPending h
    rw [pending (by simp [h]), ← moved]
    simp [envelopeRound, Voice.tickReleases, h, Voice.applyPending]
  | releasing =>
    rw [pending (by simp [h])]
    simp [envelopeRound, Voice.applyPending, Voice.tickReleases, Voice.tickMoved, h, Nat.sub_eq_zero_iff_le]

theorem envelopeRound_ends (x : Voice) (mark : Bool) : envelopeRound.ends mark x.tickStaged = x.tickReleases := by
  unfold Voice.tickStaged
  split <;> simp [envelopeRound, Voice.applyPending, Voice.tickReleases, Nat.sub_eq_zero_iff_le]

/-- The envelope leaves the state, the owner, the generation and the starve count. -/
theorem tickMoved_keeps (x : Voice) : x.tickMoved.state = x.state ∧ x.tickMoved.owner = x.owner
    ∧ x.tickMoved.gen = x.gen ∧ x.tickMoved.starve = x.starve := by
  unfold Voice.tickMoved
  split <;> exact ⟨rfl, rfl, rfl, rfl⟩

theorem ended_tickMoved (x : Voice) (r : EndReason) : x.tickMoved.ended r = x.tickGone r := by
  unfold Voice.tickGone Voice.tickMoved
  split <;> rfl

/-- A count of 3 is a third tick with the mark set (R53). -/
theorem starveCount_three (x : Voice) (mark : Bool) :
    decide (3 ≤ x.starveCount mark) = (mark && decide (2 ≤ x.starve)) := by
  cases mark <;> simp [Voice.starveCount]

/-- What the second round asks of a voice that the first has taken. -/
theorem starveRound_asks (x : Voice) (mark : Bool) :
    let z := envelopeRound.record mark x.tickStaged
    z.owner = x.owner ∧ z.gen = x.gen ∧ starveRound.ends mark z = x.tickStarves mark
      ∧ starveRound.record mark z = x.ticked mark := by
  dsimp only
  obtain ⟨hs, ho, hg, hc⟩ := tickMoved_keeps x
  rw [envelopeRound_record]
  by_cases hf : x.state = .free
  · rw [if_pos hf]
    simp [starveRound, Voice.inUse, hf, Voice.tickStarves, Voice.ticked]
  · rw [if_neg hf]
    by_cases hr : x.tickReleases = true
    · rw [if_pos hr]
      refine ⟨ho, hg, ?_, ?_⟩
      · simp [starveRound, Voice.inUse, Voice.ended, Voice.tickStarves, hr]
      · rw [Voice.ticked, if_neg hf, if_pos hr, ended_tickMoved]
        rfl
    · have used : x.tickMoved.inUse = true := by simpa [Voice.inUse, hs] using hf
      have ends : starveRound.ends mark x.tickMoved = x.tickStarves mark := by
        have taken : (x.state != .free) = true := bne_iff_ne.2 hf
        simp [starveRound, used, starveCount_three, hc, Voice.tickStarves, hr, taken]
      rw [if_neg hr]
      refine ⟨ho, hg, ends, ?_⟩
      rw [Voice.ticked, if_neg hf, if_neg hr, ← ends]
      simp only [starveRound, used, if_true, Bool.true_and, decide_eq_true_eq]
      split
      · rw [← ended_tickMoved]
        rfl
      · rw [Voice.starveCount, hc]

/-! ## The tick in whole -/

/-- The tick's notices of RELEASED, in ascending voice number (R35). -/
def State.tickTold (s : State) : State :=
  (voiceNumbers.filter fun v => s.voices[v].tickReleases && s.voices[v].notify).foldl
    (fun u v => u.post s.voices[v].owner (.voiceEnded (mkHandle v s.voices[v].gen) .released)) s

/-- And then its notices and faults of the starved voices (R54). -/
def State.tickFaulted (s : State) : State :=
  (voiceNumbers.filter fun v => s.voices[v].tickStarves s.mx.marks[v]).foldl
    (fun u v => (u.post s.voices[v].owner (.voiceEnded (mkHandle v s.voices[v].gen) .starved)).postFault
      .voiceStarved (concernOf s.voices[v].owner) (some v.val)) s.tickTold

/-- The voices that the tick ends. -/
def State.tickEnds (s : State) (v : Fin 16) : Bool :=
  s.voices[v].tickReleases || s.voices[v].tickStarves s.mx.marks[v]

theorem applyStaged_voices (s : State) (v : Fin 16) : s.applyStaged.voices[v] = s.voices[v].tickStaged :=
  Vector.getElem_map ..

theorem voiceNumbers_nodup : voiceNumbers.Nodup := List.nodup_finRange 16

theorem mem_voiceNumbers (v : Fin 16) : v ∈ voiceNumbers := List.mem_finRange v

/-- The first round's reports. -/
theorem envelopeRound_told (s t : State) : envelopeRound.reports s.applyStaged voiceNumbers t =
    (voiceNumbers.filter fun v => s.voices[v].tickReleases && s.voices[v].notify).foldl
      (fun u v => u.post s.voices[v].owner (.voiceEnded (mkHandle v s.voices[v].gen) .released)) t := by
  have keeps : ∀ x : Voice, x.tickStaged.owner = x.owner ∧ x.tickStaged.gen = x.gen
      ∧ x.tickStaged.notify = x.notify := fun x => by
    unfold Voice.tickStaged
    split <;> exact ⟨rfl, rfl, rfl⟩
  unfold VoiceRound.reports
  rw [List.foldl_filter, List.foldl_filter]
  refine foldl_same fun u v _ => ?_
  obtain ⟨ho, hg, hn⟩ := keeps s.voices[v]
  have ends : envelopeRound.endsIn s.applyStaged v = s.voices[v].tickReleases := by
    rw [VoiceRound.endsIn, applyStaged_voices, envelopeRound_ends]
  have report : envelopeRound.report s.applyStaged.voices[v] v u = if s.voices[v].notify = true then
      u.post s.voices[v].owner (.voiceEnded (mkHandle v s.voices[v].gen) .released) else u := by
    rw [applyStaged_voices, ← ho, ← hg, ← hn]
    rfl
  rw [ends, report]
  cases s.voices[v].tickReleases <;> simp

/-- The tick's reports leave everything but the log and the ports. -/
theorem tickTold_frame (s : State) : ∃ fl g y, s.tickTold = { s with fl := fl, game := g, sys := y } := by
  have one : ∀ v : Fin 16, Reports fun u =>
      u.post s.voices[v].owner (.voiceEnded (mkHandle v s.voices[v].gen) .released) := fun v => reports_post _ _
  exact (reports_foldl one (voiceNumbers.filter fun v => s.voices[v].tickReleases && s.voices[v].notify) s).1

theorem tickFaulted_frame (s : State) : ∃ fl g y, s.tickFaulted = { s with fl := fl, game := g, sys := y } := by
  obtain ⟨fl, g, y, h⟩ := (reports_foldl (fun v => (starveRound_reports s.voices[v] v))
    (voiceNumbers.filter fun v => s.voices[v].tickStarves s.mx.marks[v]) s.tickTold).1
  obtain ⟨fl', g', y', h'⟩ := tickTold_frame s
  refine ⟨fl, g, y, h.trans ?_⟩
  rw [h']

/-- The state after the first round: its reports are made, each voice is as its part leaves it (R12, R14). -/
theorem envelopeRound_tick (s : State) : ∃ vs ch, voiceNumbers.foldl State.envelopeVoice s.applyStaged =
      s.tickTold.withPool vs (s.age.filter fun v => !s.voices[v].tickReleases) ch
    ∧ ∀ v : Fin 16, vs[v] = envelopeRound.record s.mx.marks[v] s.voices[v].tickStaged
      ∧ ch[v] = if s.voices[v].tickReleases then s.channels[v].stop else s.channels[v] := by
  have parts : State.envelopeVoice = envelopeRound.part := by funext s v; exact envelopeVoice_eq s v
  have ends : ∀ v, envelopeRound.endsIn s.applyStaged v = s.voices[v].tickReleases := fun v => by
    rw [VoiceRound.endsIn, applyStaged_voices, envelopeRound_ends]
  obtain ⟨vs, ch, hfold, hall⟩ := VoiceRound.foldl_part envelopeRound_reports voiceNumbers_nodup s.applyStaged
  refine ⟨vs, ch, ?_, fun v => ?_⟩
  · have told : envelopeRound.reports s.applyStaged voiceNumbers s.applyStaged =
        s.tickTold.withPool s.applyStaged.voices s.age s.channels := by
      rw [State.tickTold, ← envelopeRound_told]
      exact (VoiceRound.reports_reports envelopeRound_reports s.applyStaged voiceNumbers s).2 _ _ _
    rw [parts, hfold, told]
    simp only [ends, List.contains_iff_mem.2 (mem_voiceNumbers _), Bool.true_and]
    rfl
  · obtain ⟨hv, hc⟩ := hall v
    rw [hv, hc, if_pos (mem_voiceNumbers v), applyStaged_voices, ends]
    exact ⟨rfl, by simp [mem_voiceNumbers, State.applyStaged]⟩

/-- The second round's reports, from a state that holds what the first left. -/
theorem starveRound_told {s u : State} (hm : u.mx = s.mx)
    (hv : ∀ v : Fin 16, u.voices[v] = envelopeRound.record s.mx.marks[v] s.voices[v].tickStaged) :
    starveRound.reports u voiceNumbers s.tickTold = s.tickFaulted := by
  unfold VoiceRound.reports State.tickFaulted
  rw [List.foldl_filter, List.foldl_filter]
  refine foldl_same fun t v _ => ?_
  obtain ⟨ho, hg, he, _⟩ := starveRound_asks s.voices[v] s.mx.marks[v]
  rw [VoiceRound.endsIn, hm, hv, he]
  dsimp only [starveRound]
  rw [ho, hg]

/-- The tick: the reports of its two rounds, and each voice's record and channel (R35). -/
theorem mixerTick_eq (s : State) : ∃ vs ch, s.mixerTick = ({ s.tickFaulted with
      voices := vs, age := s.age.filter fun v => !s.tickEnds v, channels := ch, mx := s.mx.handOver } :
      State).rumbleTick
    ∧ ∀ v : Fin 16, vs[v] = s.voices[v].ticked s.mx.marks[v]
      ∧ ch[v] = if s.tickEnds v then s.channels[v].stop else s.channels[v] := by
  have parts : State.starveVoice = starveRound.part := by funext s v; exact starveVoice_eq s v
  obtain ⟨vs1, ch1, h1, all1⟩ := envelopeRound_tick s
  obtain ⟨fl, g, y, ht⟩ := tickTold_frame s
  obtain ⟨fl', g', y', hf⟩ := tickFaulted_frame s
  generalize hu : s.tickTold.withPool vs1 (s.age.filter fun v => !s.voices[v].tickReleases) ch1 = u at h1
  have mx : u.mx = s.mx := by rw [← hu, ht]; rfl
  have records : ∀ v : Fin 16, u.voices[v] = envelopeRound.record s.mx.marks[v] s.voices[v].tickStaged :=
    fun v => by rw [← hu]; exact (all1 v).1
  have ends : ∀ v, starveRound.endsIn u v = s.voices[v].tickStarves s.mx.marks[v] := fun v => by
    rw [VoiceRound.endsIn, mx, records]
    exact (starveRound_asks s.voices[v] s.mx.marks[v]).2.2.1
  obtain ⟨vs2, ch2, h2, all2⟩ := VoiceRound.foldl_part starveRound_reports voiceNumbers_nodup u
  have told : starveRound.reports u voiceNumbers u = s.tickFaulted.withPool u.voices u.age u.channels := by
    rw [← starveRound_told mx records, ← (VoiceRound.reports_reports starveRound_reports u voiceNumbers _).2, ← hu]
    rfl
  refine ⟨vs2, ch2, ?_, fun v => ?_⟩
  · have age : u.age.filter (fun w => !(voiceNumbers.contains w && starveRound.endsIn u w)) =
        s.age.filter fun v => !s.tickEnds v := by
      rw [← hu]
      show ((s.age.filter fun v => !s.voices[v].tickReleases).filter _) = _
      rw [List.filter_filter, hu]
      refine List.filter_congr fun w _ => ?_
      rw [ends, List.contains_iff_mem.2 (mem_voiceNumbers w), State.tickEnds]
      cases s.voices[w].tickReleases <;> simp
    unfold State.mixerTick
    dsimp only
    rw [h1, parts, h2, age, told, hf]
    rfl
  · obtain ⟨hv, hc⟩ := all2 v
    have channel : u.channels[v] = if s.voices[v].tickReleases then s.channels[v].stop else s.channels[v] := by
      rw [← hu]; exact (all1 v).2
    rw [hv, hc, if_pos (mem_voiceNumbers v), mx, records, ends, channel]
    refine ⟨(starveRound_asks s.voices[v] s.mx.marks[v]).2.2.2, ?_⟩
    unfold State.tickEnds Voice.tickStarves
    cases s.voices[v].tickReleases <;> simp [mem_voiceNumbers]

end Sys2Proof.Machine
end

section
/-! SUPPORT. The driver's tick (R59 to R64), and the mixer tick's obligation. -/

namespace Sys2Proof.Machine

/-! ## The driver's tick -/

theorem scaledDrive_natAbs (d : Int) (strength : Nat) : (scaledDrive d strength).natAbs = d.natAbs * strength / 4 := by
  unfold scaledDrive
  split
  · rw [Int.natAbs_neg, Int.natAbs_natCast]
  · rw [Int.natAbs_natCast]

/-- No target without a drive and a duty; otherwise the direction of the drive (R59, step 5). -/
theorem tickTarget_eq (drive : Int) (duty : Nat) : tickTarget drive duty =
    if duty = 0 ∨ drive = 0 then .coast else if 0 < drive then .fwd else .rev := by
  unfold tickTarget
  rcases Nat.eq_zero_or_pos duty with hd | hd
  · simp [hd]
  · rcases Int.lt_trichotomy drive 0 with h | h | h
    · rw [if_neg (by omega), if_pos ⟨h, hd⟩, if_neg (by omega), if_neg (by omega)]
    · rw [if_neg (by omega), if_neg (by omega), if_pos (.inr h)]
    · rw [if_pos ⟨h, hd⟩, if_neg (by omega), if_pos h]

/-- Acting on a target touches neither the heat nor derating. -/
theorem act_heat_derated (r : Rumble) (tb : Nat) (t : Target) (duty : Nat) :
    (r.act tb t duty).heat = r.heat ∧ (r.act tb t duty).derated = r.derated := by
  unfold Rumble.act
  split
  · unfold Rumble.brakeTick
    dsimp only
    split <;> exact ⟨rfl, rfl⟩
  · exact ⟨rfl, rfl⟩
  · exact ⟨rfl, rfl⟩
  · split <;> exact ⟨rfl, rfl⟩

theorem deratedAfter_eq (derated : Bool) (heat : Nat) : deratedAfter derated heat =
    if derated then decide (100000 < heat) else decide (200000 ≤ heat) := by
  unfold deratedAfter
  cases derated
  · rfl
  · rw [if_pos rfl, if_pos rfl, ← decide_not, decide_eq_decide]
    omega

theorem appliedDuty_eq (r : Rumble) : r.appliedDuty = if r.state = .fwd ∨ r.state = .rev then r.duty else 0 := by
  unfold Rumble.appliedDuty
  cases r.state <;> simp

/-- The derating's notices and fault (R63). -/
theorem postDerating_eq (s : State) (before : Bool) : s.postDerating before =
    if before = false ∧ s.rd.derated = true then
      (s.postMotor .derateOn).postFault .motorDerated .both none
    else if before = true ∧ s.rd.derated = false then s.postMotor .derateOff
    else s := by
  unfold State.postDerating
  cases before <;> cases s.rd.derated <;> rfl

/-- The driver takes a target (R60). -/
def Rumble.takes (q : Rumble) (t : Target) (duty : Nat) : Rumble :=
  match t with
  | .coast => { q with state := .coast, duty := 0, pending := some (.coast, 0) }
  | .fwd => { q with state := .fwd, duty := duty, lastDir := .fwd, pending := some (.fwd, duty) }
  | .rev => { q with state := .rev, duty := duty, lastDir := .rev, pending := some (.rev, duty) }

/-- The driver brakes, with a target remembered (R60, R61). -/
def Rumble.brakes (q : Rumble) (t : Target) (duty : Nat) : Rumble :=
  { q with state := .brake, duty := 0, pending := some (.brake, 0), remembered := t
           rememberedDuty := if t = .coast then 0 else duty }

/-- A target is against the last direction (R60). -/
abbrev Target.against (t : Target) (d : Direction) : Prop := t = .fwd ∧ d = .rev ∨ t = .rev ∧ d = .fwd

theorem opposite_iff (t : Target) (d : Direction) : t.opposite d = true ↔ t.against d := by
  simp [Target.opposite, Target.against]

theorem takeTarget_eq (q : Rumble) (t : Target) (duty : Nat) : q.takeTarget t duty = q.takes t duty := by
  cases t <;> rfl

/-- A brake that begins has a target to remember (R60). -/
theorem beginBrake_eq (q : Rumble) (tb duty : Nat) {t : Target} (h : t ≠ .coast) :
    q.beginBrake tb t duty = ({ q with brakeTimer := max 1 tb } : Rumble).brakes t duty := by
  have timer : (if tb = 0 then 1 else tb) = max 1 tb := by split <;> omega
  simp only [Rumble.beginBrake, Rumble.setResult, Rumble.brakes, timer, if_neg h]

/-- A tick in BRAKE ends the brake when its timer has run out, and otherwise goes on with it (R61). -/
theorem brakeTick_eq (q : Rumble) (t : Target) (duty : Nat) : q.brakeTick t duty =
    if q.brakeTimer ≤ 1 then
      ({ q with brakeTimer := 0, remembered := t, lastDir := .none
                rememberedDuty := if t = .coast then 0 else duty } : Rumble).takes t duty
    else ({ q with brakeTimer := q.brakeTimer - 1 } : Rumble).brakes t duty := by
  unfold Rumble.brakeTick
  dsimp only
  by_cases h : q.brakeTimer ≤ 1
  · have out : q.brakeTimer - 1 = 0 := by omega
    rw [if_pos out, if_pos h, out]
    cases t <;> rfl
  · rw [if_neg (by omega), if_neg h]
    rfl

/-- What a tick's target does in each motor state (R60, R61, R64). -/
theorem act_eq (q : Rumble) (tb : Nat) (t : Target) (duty : Nat) :
    q.act tb t duty = match q.state with
      | .cutoff => q
      | .disabled => q
      | .brake => q.brakeTick t duty
      | _ => if t.against q.lastDir then ({ q with brakeTimer := max 1 tb } : Rumble).brakes t duty
        else q.takes t duty := by
  have moving : (if t.opposite q.lastDir then q.beginBrake tb t duty else q.takeTarget t duty) =
      if t.against q.lastDir then ({ q with brakeTimer := max 1 tb } : Rumble).brakes t duty
      else q.takes t duty := by
    by_cases h : t.against q.lastDir
    · have target : t ≠ .coast := by rintro rfl; simp [Target.against] at h
      rw [if_pos ((opposite_iff _ _).2 h), if_pos h, beginBrake_eq q tb duty target]
    · rw [if_neg fun ho => h ((opposite_iff _ _).1 ho), if_neg h, takeTarget_eq]
  unfold Rumble.act
  rw [moving]
  cases q.state <;> rfl

/-- The driver's tick: its drive, duty and target, what it does with them, the heat and derating (R59 to R64). -/
theorem tick_eq (r : Rumble) (cfg : LoadedConfig) (d : Int) :
    let drive := scaledDrive d r.strength
    let duty := tickDuty cfg (capInForce cfg r.derated) drive
    let t := tickTarget drive duty
    let acted := ({ r with drive := drive, target := t } : Rumble).act cfg.tb t duty
    let heat := heatAfter r.heat acted.appliedDuty cfg.pc
    r.tick cfg d = { acted with heat := heat, derated := deratedAfter r.derated heat } := by
  dsimp only
  obtain ⟨hh, hd⟩ := act_heat_derated
    { r with drive := scaledDrive d r.strength
             target := tickTarget (scaledDrive d r.strength)
              (tickDuty cfg (capInForce cfg r.derated) (scaledDrive d r.strength)) } cfg.tb
    (tickTarget (scaledDrive d r.strength)
      (tickDuty cfg (capInForce cfg r.derated) (scaledDrive d r.strength)))
    (tickDuty cfg (capInForce cfg r.derated) (scaledDrive d r.strength))
  unfold Rumble.tick
  dsimp only
  rw [hh, hd]

/-! ## The tick's obligation -/

/-- Settles O30: the two rounds of the tick, and the driver's tick that follows them. -/
theorem tickActs : Obligations.TickActs := by
  refine ⟨fun s hp hf => ?_, fun s => ?_, fun r cfg d => ?_⟩
  · intro released starved ended told faulted
    obtain ⟨vs, ch, htick, hall⟩ := mixerTick_eq s
    obtain ⟨fl, g, y, hframe⟩ := tickFaulted_frame s
    have due : (s.powered && s.tickDue) = true := Bool.and_eq_true_iff.2 ⟨hp, decide_eq_true hf⟩
    have toFaulted : faulted = s.tickFaulted := by
      refine foldl_same fun u v _ => ?_
      exact congrArg (fun c => (ended u v .starved).postFault .voiceStarved c (some v.val))
        (by cases s.voices[v].owner <;> rfl)
    refine ⟨_, (if_pos due).trans (congrArg Host.Outcome.next htick), ?_, rfl, rfl, fun v => hall v⟩
    rw [toFaulted, hframe]
  · intro restarted told ticked
    obtain ⟨g, y, posted⟩ := postMotor_frame restarted .staleOff
    have keeps : told.bl = s.bl ∧ told.rd.derated = s.rd.derated ∧ told.mx = s.mx := by
      by_cases h : s.rd.stale = true
      · rw [show told = restarted.postMotor .staleOff from if_pos h, posted]
        exact ⟨rfl, rfl, rfl⟩
      · rw [show told = restarted from if_neg h]
        exact ⟨rfl, rfl, rfl⟩
    obtain ⟨config, derated, mixer⟩ := keeps
    have loads : told.loaded = s.loaded := by rw [State.loaded, config, State.loaded]
    have ticks : s.rumbleTick = if told.loaded then
        ({ told with rd := told.rd.tick told.bl.cfg told.mx.motorMix } : State).postDerating told.rd.derated
        else told := rfl
    have toTicked : ({ told with rd := told.rd.tick told.bl.cfg told.mx.motorMix } : State) = ticked :=
      congrArg (fun rd => ({ told with rd := rd } : State)) (by rw [config, mixer])
    rw [ticks, loads, toTicked, derated]
    refine ⟨fun hl => if_neg (by rw [hl]; decide), fun hl => ?_⟩
    rw [if_pos hl]
    exact postDerating_eq ticked s.rd.derated
  · intro size drive full cap duty target asked take hold against acted applied heat
    have toDuty : tickDuty cfg (capInForce cfg r.derated) (scaledDrive d r.strength) = duty := by
      unfold tickDuty
      rw [scaledDrive_natAbs]
      rfl
    have toTarget : tickTarget (scaledDrive d r.strength) duty = target := tickTarget_eq drive duty
    have toActed : asked.act cfg.tb target duty = acted := by
      rw [act_eq, brakeTick_eq]
      rfl
    have toApplied : acted.appliedDuty = applied := appliedDuty_eq acted
    have toHeat : heatAfter r.heat acted.appliedDuty cfg.pc = heat := by rw [toApplied]; rfl
    have tick := tick_eq r cfg d
    dsimp only at tick
    rw [toDuty, toTarget, show ({ r with drive := scaledDrive d r.strength, target := target } : Rumble).act cfg.tb
      target duty = acted from toActed, toHeat, deratedAfter_eq] at tick
    exact tick

end Sys2Proof.Machine
end

section
/-! SUPPORT. One voice's samples and what it contributes (R24 to R28). -/

namespace Sys2Proof.Machine

/-- A fraction of a number, rounded down, lies between 0 and the number. -/
theorem fraction_between (d : Int) {f k : Int} (h0 : 0 ≤ f) (hf : f < k) :
    (0 ≤ d → 0 ≤ d * f / k ∧ d * f / k ≤ d) ∧ (d ≤ 0 → d ≤ d * f / k ∧ d * f / k ≤ 0) := by
  have hk : 0 < k := by omega
  have hfk : f ≤ k := by omega
  refine ⟨fun hd => ⟨?_, ?_⟩, fun hd => ⟨?_, ?_⟩⟩
  · exact Int.ediv_nonneg (Int.mul_nonneg hd h0) (by omega)
  · exact Int.ediv_le_of_le_mul hk (Int.mul_le_mul_of_nonneg_left hfk hd)
  · exact (Int.le_ediv_iff_mul_le hk).2 (Int.mul_le_mul_of_nonpos_left hd hfk)
  · exact Int.ediv_nonpos_of_nonpos_of_neg (Int.mul_nonpos_of_nonpos_of_nonneg hd h0) hk

/-- Settles O26: what is added to s0 is a fraction of s1 - s0. -/
theorem interpolatedBetween : Obligations.InterpolatedBetween := by
  refine ⟨fun s0 s1 f hf => ?_, by decide⟩
  obtain ⟨rises, falls⟩ := fraction_between (s1 - s0) (f := f) (k := 65536) (by omega) (by omega)
  have value : interpolate s0 s1 f = s0 + (s1 - s0) * f / 65536 := rfl
  rw [value, Int.fdiv_eq_ediv_of_nonneg _ (by decide)]
  refine ⟨rfl, by omega, by omega, ?_⟩
  rintro (rfl | rfl)
  · rw [Int.natCast_zero, Int.mul_zero, Int.zero_ediv, Int.add_zero]
  · rw [Int.sub_self, Int.zero_mul, Int.zero_ediv, Int.add_zero]

/-- The k-th sample of a FIFO; none when its bytes are not all there (R24). -/
def sampleAt : SampleFormat → List Byte → Nat → Option Int
  | .pcm8, fifo, k => fifo[k]?.map fun b => b.toInt * 256
  | .pcm16, fifo, k => match fifo[2 * k]?, fifo[2 * k + 1]? with
    | some lo, some hi => some ((lo.toNat : Int) + 256 * hi.toInt)
    | _, _ => none

theorem headSample_eq (fmt : SampleFormat) (fifo : List Byte) :
    headSample fmt fifo = (sampleAt fmt fifo 0).map fun s => (s, fifo.drop fmt.bytes) := by
  have word (lo hi : Byte) : (hi ++ lo).toInt = (lo.toNat : Int) + 256 * hi.toInt :=
    (BitVec.toInt_append (x := hi) (y := lo)).trans (Int.add_comm _ _)
  cases fmt with
  | pcm8 => cases fifo <;> rfl
  | pcm16 =>
    match fifo with
    | [] => rfl
    | [_] => rfl
    | lo :: hi :: rest => simp [headSample, sampleAt, word, SampleFormat.bytes]

/-- The second sample is the head of what follows the first. -/
theorem sampleAt_drop (fmt : SampleFormat) (fifo : List Byte) :
    sampleAt fmt (fifo.drop fmt.bytes) 0 = sampleAt fmt fifo 1 := by
  cases fmt <;> simp [sampleAt, SampleFormat.bytes]

theorem samples_eq (x : Voice) (fifo : List Byte) : x.samples fifo = (sampleAt x.format fifo 0).bind fun s0 =>
    if x.n + 1 < x.len ∨ x.loop.isSome = true then (sampleAt x.format fifo 1).map fun s1 => (s0, s1)
    else some (s0, s0) := by
  unfold Voice.samples
  rw [headSample_eq]
  cases sampleAt x.format fifo 0 with
  | none => rfl
  | some s0 =>
    simp only [Option.map_some, Option.bind_some, headSample_eq, sampleAt_drop, Option.map_map]
    rfl

theorem fresh_speaker {x : Voice} (h : x.dest = .speaker) (s0 s1 : Int) : x.fresh s0 s1 =
    ⟨enveloped (interpolate s0 s1 x.f) x.level * x.volume * (127 - (x.pan : Int)) / 16384,
      enveloped (interpolate s0 s1 x.f) x.level * x.volume * x.pan / 16384, 0⟩ := by
  simp only [Voice.fresh, Voice.contribute, h]

theorem fresh_motor {x : Voice} (h : x.dest = .motor) (s0 s1 : Int) : x.fresh s0 s1 =
    ⟨0, 0, enveloped (interpolate s0 s1 x.f) x.level * x.volume / 128⟩ := by
  simp only [Voice.fresh, Voice.contribute, h]

/-- Samples of 16 bits interpolate and are enveloped to a value of 16 bits (R25, R26). -/
theorem enveloped_between {s0 s1 : Int} {f level : Nat} (hl0 : -32768 ≤ s0) (hh0 : s0 ≤ 32767) (hl1 : -32768 ≤ s1)
    (hh1 : s1 ≤ 32767) (hf : f < 65536) (hlevel : level ≤ 32767) :
    -32768 ≤ enveloped (interpolate s0 s1 f) level ∧ enveloped (interpolate s0 s1 f) level ≤ 32767 := by
  obtain ⟨_, low, high, _⟩ := interpolatedBetween.1 s0 s1 f hf
  obtain ⟨rises, falls⟩ := fraction_between (interpolate s0 s1 f) (f := level) (k := 32768) (by omega) (by omega)
  unfold enveloped
  omega

/-- A value of 16 bits times a gain of at most c (R27, R28). -/
theorem gain_between {e w c : Int} (hl : -32768 ≤ e) (hh : e ≤ 32767) (h0 : 0 ≤ w) (hw : w ≤ c) :
    -32768 * c ≤ e * w ∧ e * w ≤ 32767 * c := by
  have low := Int.mul_le_mul_of_nonneg_right hl h0
  have high := Int.mul_le_mul_of_nonneg_right hh h0
  omega

/-- The left and the right of a SPEAKER voice by its volume and one side of its pan (R27). -/
theorem side_between {e volume side : Int} (hl : -32768 ≤ e) (hh : e ≤ 32767) (hv0 : 0 ≤ volume) (hv : volume ≤ 127)
    (hs0 : 0 ≤ side) (hs : side ≤ 127) :
    -32258 ≤ e * volume * side / 16384 ∧ e * volume * side / 16384 ≤ 32257 := by
  have product : volume * side ≤ 127 * 127 := Int.mul_le_mul hv hs hs0 (by decide)
  obtain ⟨low, high⟩ := gain_between hl hh (Int.mul_nonneg hv0 hs0) product
  rw [Int.mul_assoc]
  omega

/-- Settles O27: the samples at the FIFO's head, and the bounds from those of the enveloped sample. -/
theorem contributionBounded : Obligations.ContributionBounded := by
  refine ⟨fun x fifo => ?_, fun x s0 s1 => ?_, fun x s0 s1 hl0 hh0 hl1 hh1 hf hlevel hv hp => ?_⟩
  · intro sample
    have same : sample = sampleAt x.format fifo := by
      funext k
      dsimp only [sample]
      cases x.format <;> rfl
    rw [same]
    refine (samples_eq x fifo).trans ?_
    cases sampleAt x.format fifo 0 <;> rfl
  · dsimp only
    simp (disch := decide) only [Int.fdiv_eq_ediv_of_nonneg]
    exact ⟨fun h => fresh_speaker h s0 s1, fun h => fresh_motor h s0 s1⟩
  · obtain ⟨low, high⟩ := enveloped_between hl0 hh0 hl1 hh1 hf hlevel
    refine ⟨fun h => ?_, fun h => ?_, fun h => ?_⟩
    · obtain ⟨leftLow, leftHigh⟩ := side_between (volume := x.volume) (side := 127 - x.pan) low high (by omega)
        (by omega) (by omega) (by omega)
      obtain ⟨rightLow, rightHigh⟩ := side_between (volume := x.volume) (side := x.pan) low high (by omega)
        (by omega) (by omega) (by omega)
      rw [fresh_speaker h]
      exact ⟨rfl, leftLow, leftHigh, rightLow, rightHigh⟩
    · obtain ⟨motorLow, motorHigh⟩ := gain_between (w := x.volume) (c := 127) low high (by omega) (by omega)
      rw [fresh_motor h]
      exact ⟨rfl, rfl, by dsimp only; omega, by dsimp only; omega⟩
    · have silent : enveloped (interpolate s0 s1 x.f) x.level = 0 := by
        rw [h, enveloped, Int.natCast_zero, Int.mul_zero, Int.zero_ediv]
      cases hd : x.dest with
      | speaker => rw [fresh_speaker hd, silent]; simp only [Int.zero_mul, Int.zero_ediv]
      | motor => rw [fresh_motor hd, silent]; simp only [Int.zero_mul, Int.zero_ediv]

end Sys2Proof.Machine
end

section
/-! SUPPORT. The mix requests (R37, R38). -/

namespace Sys2Proof.Machine

theorem reserveSlot_mixer (s : State) (m : Master) (mx : Mixer) :
    ({ s.reserveSlot m with mx := mx } : State) = ({ s with mx := mx } : State).reserveSlot m := by cases m <;> rfl

theorem exec_mixLevel {s : State} {m : Master} (tag : Byte) (level : Option Word) (clear : Bool)
    (h : s.takes m .running) : exec (.mixLevel m tag level clear) s =
      .next (jobMixLevel ⟨m, tag, 0x10⟩ level clear (s.reserveSlot m)) := receive_takes h rfl

theorem exec_duckSet {s : State} {m : Master} (tag : Byte) (f : Word) (h : s.takes m .running) :
    exec (.duckSet m tag f) s = .next (jobDuckSet ⟨m, tag, 0x11⟩ f (s.reserveSlot m)) := receive_takes h rfl

theorem levelInRange_iff (level : Option Word) : levelInRange level = true ↔ ∀ w, level = some w → w.toNat ≤ 255 := by
  cases level with
  | none => simp [levelInRange]
  | some w => simp [levelInRange]

/-- What an accepted MIX_LEVEL makes of the mixer: the clip count, and the requester's own level (R37). -/
theorem mixLevel_eq (mx : Mixer) (m : Master) (level : Option Word) (clear : Bool) : mx.mixLevel m level clear =
    { mx with
      clip := if clear then 0 else mx.clip
      mg := if m = .game then (level.map (·.toNat)).getD mx.mg else mx.mg
      ms := if m = .system then (level.map (·.toNat)).getD mx.ms else mx.ms } := by
  cases level with
  | none => cases m <;> rfl
  | some w => cases m <;> rfl

/-- Settles O31: the slot that the port reserved takes the job's answer. -/
theorem mixRequests : Obligations.MixRequests := by
  refine ⟨fun m tag level clear s ht hl => ?_, fun m tag w clear s ht hw => ?_, fun tag f s ht => ?_,
    fun tag f s ht => ?_⟩
  · intro own
    have accepted := reserve_answer { s with mx := s.mx.mixLevel m level clear } ⟨m, tag, 0x10⟩ .ok
      ((s.mx.mixLevel m level clear).levelFields s.mx.clip)
    have ownLevel : ∀ old who, own old who = if m = who then (level.map (·.toNat)).getD old else old := by
      intro old who
      cases level <;> rfl
    rw [exec_mixLevel tag level clear ht, jobMixLevel, if_pos ((levelInRange_iff level).2 hl)]
    dsimp only
    rw [State.reserveSlot_mx, reserveSlot_mixer, accepted, mixLevel_eq, ownLevel, ownLevel]
    rfl
  · have refused : ¬levelInRange (some w) = true := fun h =>
      absurd ((levelInRange_iff _).1 h w rfl) (by omega)
    rw [exec_mixLevel tag _ clear ht, jobMixLevel, if_neg refused]
    exact congrArg _ (reserve_refuse s ⟨m, tag, 0x10⟩ .range)
  · rw [exec_duckSet tag f ht, jobDuckSet, if_neg nofun]
    dsimp only
    rw [reserveSlot_mixer]
    exact congrArg _ (reserve_answer _ ⟨.system, tag, 0x11⟩ .ok _)
  · rw [exec_duckSet tag f ht, jobDuckSet, if_pos rfl]
    exact congrArg _ (reserve_refuse s ⟨.game, tag, 0x11⟩ .denied)

end Sys2Proof.Machine
end

section
/-! SUPPORT. One voice's part in a frame (R23, R29 to R31). -/

namespace Sys2Proof.Machine

/-! ## What a voice adds -/

theorem sounds_iff (x : Voice) : x.sounds = true ↔ x.state = .playing ∨ x.state = .releasing := by
  rw [Voice.sounds, Bool.or_eq_true_iff, beq_iff_eq, beq_iff_eq]

/-- A silent contribution adds nothing. -/
theorem Mixer.add_zero (mx : Mixer) (m : Master) : mx.add m Contribution.zero = mx := by
  cases m <;> simp [Mixer.add, Contribution.zero]

/-- A voice adds to the accumulators of its kind and owner alone (R27, R28). -/
theorem add_fresh_speaker {x : Voice} (h : x.dest = .speaker) (mx : Mixer) (s0 s1 : Int) :
    let c := x.fresh s0 s1
    mx.add .game c = { mx with alg := mx.alg + c.left, arg := mx.arg + c.right }
    ∧ mx.add .system c = { mx with als := mx.als + c.left, ars := mx.ars + c.right } := by
  simp [Mixer.add, fresh_speaker h]

theorem add_fresh_motor {x : Voice} (h : x.dest = .motor) (mx : Mixer) (m : Master) (s0 s1 : Int) :
    mx.add m (x.fresh s0 s1) = { mx with am := mx.am + (x.fresh s0 s1).motor } := by
  cases m <;> simp [Mixer.add, fresh_motor h]

/-- What a voice adds in the frame, as the state stands: nothing unless it sounds (R23, R29). -/
def State.framePart (s : State) (v : Fin 16) : Contribution :=
  if s.voices[v].sounds then (match s.voices[v].samples s.channels[v].fifo with
    | none => s.voices[v].last
    | some (s0, s1) => s.voices[v].fresh s0 s1)
  else ⟨0, 0, 0⟩

/-! ## The advance -/

/-- The state with a voice at sample n, its fraction and its channel advanced (R30, R43). -/
def State.movedTo (s : State) (v : Fin 16) (n : Nat) : State :=
  (s.setChannel v (s.channels[v].consume (s.voices[v].passed * s.voices[v].format.bytes))).setVoice v
    { s.voices[v] with n := n, f := s.voices[v].advanced % 65536 }

theorem advanceVoice_loops {s : State} {v : Fin 16} {ls : Nat} (h : s.voices[v].loop = some ls) :
    s.advanceVoice v = s.movedTo v (wrapLoop ls s.voices[v].len (s.voices[v].advanced / 65536)) := by
  unfold State.advanceVoice
  dsimp only
  split
  · next l hl => rw [show ls = l from Option.some.inj (h.symm.trans hl)]; rfl
  · next hl => exact absurd (h.symm.trans hl) nofun

/-- Without a loop the voice ends where its advance reaches the end of the sample (R31). -/
theorem advanceVoice_oneShot {s : State} {v : Fin 16} (h : s.voices[v].loop = none) : s.advanceVoice v =
    if s.voices[v].len ≤ s.voices[v].advanced / 65536 then
      (s.movedTo v (s.voices[v].advanced / 65536)).endVoice v .endOfSample
    else s.movedTo v (s.voices[v].advanced / 65536) := by
  unfold State.advanceVoice
  dsimp only
  split
  · next l hl => exact absurd (h.symm.trans hl) nofun
  · rfl

/-- Within the sample the voice goes on, looped or not (R30). -/
theorem advanceVoice_within {s : State} {v : Fin 16} (hn : s.voices[v].advanced / 65536 < s.voices[v].len) :
    s.advanceVoice v = s.movedTo v (s.voices[v].advanced / 65536) := by
  cases h : s.voices[v].loop with
  | some ls => rw [advanceVoice_loops h, wrapLoop, if_pos hn]
  | none => rw [advanceVoice_oneShot h, if_neg (Nat.not_le.2 hn)]

/-- An end but for its notice (R18). -/
theorem endVoice_ports (s : State) (v : Fin 16) (r : EndReason) :
    ∃ g y, s.endVoice v r = { s.freeVoice v r with game := g, sys := y } := by
  unfold State.endVoice
  dsimp only
  split
  · exact post_frame _ _ _
  · exact ⟨_, _, rfl⟩

/-- The advance changes the voice's record and channel, and by an end the age list and the ports; the record keeps its
kind and its last contribution (R30, R31). -/
theorem advanceVoice_shape (s : State) (v : Fin 16) : ∃ x c ag g y,
    s.advanceVoice v = { s with
      voices := putAt s.voices v x, age := ag, channels := putAt s.channels v c, game := g, sys := y }
    ∧ x.dest = s.voices[v].dest ∧ x.last = s.voices[v].last := by
  have moved (n : Nat) : ∃ x c ag g y, s.movedTo v n = { s with
      voices := putAt s.voices v x, age := ag, channels := putAt s.channels v c, game := g, sys := y }
      ∧ x.dest = s.voices[v].dest ∧ x.last = s.voices[v].last := ⟨_, _, _, _, _, rfl, rfl, rfl⟩
  cases h : s.voices[v].loop with
  | some ls => rw [advanceVoice_loops h]; exact moved _
  | none =>
    rw [advanceVoice_oneShot h]
    split
    · obtain ⟨g, y, ended⟩ := endVoice_ports (s.movedTo v (s.voices[v].advanced / 65536)) v .endOfSample
      rw [ended, freeVoice_eq]
      simp only [State.movedTo, State.setVoice, State.setChannel, putAt_same, putAt_putAt]
      exact ⟨_, _, _, _, _, rfl, rfl, rfl⟩
    · exact moved _

/-! ## The part in whole -/

theorem frameVoice_silent {s : State} {v : Fin 16} (h : s.voices[v].sounds = false) : s.frameVoice v = s :=
  if_neg (Bool.eq_false_iff.1 h)

theorem frameVoice_starved {s : State} {v : Fin 16} (h : s.voices[v].sounds = true)
    (hf : s.voices[v].samples s.channels[v].fifo = none) :
    s.frameVoice v = { s with mx := (s.mx.add s.voices[v].owner s.voices[v].last).setMark v true } := by
  unfold State.frameVoice
  simp only [h, hf, if_true]

/-- The state with a voice's contribution added and kept in its record (R27 to R29). -/
def State.fedBy (s : State) (v : Fin 16) (c : Contribution) : State :=
  ({ s with mx := s.mx.add s.voices[v].owner c } : State).setVoice v { s.voices[v] with last := c }

theorem frameVoice_fed {s : State} {v : Fin 16} {s0 s1 : Int} (h : s.voices[v].sounds = true)
    (hf : s.voices[v].samples s.channels[v].fifo = some (s0, s1)) :
    s.frameVoice v = (s.fedBy v (s.voices[v].fresh s0 s1)).advanceVoice v := by
  unfold State.frameVoice
  simp only [h, hf, if_true]
  rfl

theorem fedBy_voice (s : State) (v : Fin 16) (c : Contribution) :
    (s.fedBy v c).voices[v] = { s.voices[v] with last := c } := putAt_same _ _ _

/-- A fed voice that has advanced: its record and its channel in place, nothing else (R30, R43). -/
theorem fedBy_movedTo (s : State) (v : Fin 16) (c : Contribution) (n : Nat) : (s.fedBy v c).movedTo v n = { s with
    mx := s.mx.add s.voices[v].owner c
    voices := putAt s.voices v { s.voices[v] with last := c, n := n, f := s.voices[v].advanced % 65536 }
    channels := putAt s.channels v
      (s.channels[v].consume (s.voices[v].passed * s.voices[v].format.bytes)) } := by
  unfold State.movedTo
  rw [fedBy_voice]
  simp only [State.fedBy, State.setVoice, State.setChannel, putAt_putAt]
  rfl

theorem Mixer.add_marks (mx : Mixer) (m : Master) (c : Contribution) : (mx.add m c).marks = mx.marks := by
  cases m <;> rfl

theorem Mixer.setMark_same (mx : Mixer) (v : Fin 16) : mx.setMark v mx.marks[v] = mx := by
  rw [Mixer.setMark, putAt_self]

/-- One voice's part: what it adds, its record, its channel and its mark; a voice that does not sound keeps all three.
The record keeps its kind, and its last contribution is the one it had or a fresh one (R23 to R31). -/
theorem frameVoice_shape (s : State) (v : Fin 16) : ∃ x c mark ag g y,
    s.frameVoice v = { s with
      voices := putAt s.voices v x, age := ag, channels := putAt s.channels v c
      mx := (s.mx.add s.voices[v].owner (s.framePart v)).setMark v mark, game := g, sys := y }
    ∧ (s.voices[v].sounds = false → x = s.voices[v] ∧ c = s.channels[v] ∧ mark = s.mx.marks[v])
    ∧ x.dest = s.voices[v].dest
    ∧ (x.last = s.voices[v].last ∨ ∃ s0 s1, x.last = s.voices[v].fresh s0 s1) := by
  cases hs : s.voices[v].sounds with
  | false =>
    have part : s.framePart v = Contribution.zero := if_neg (Bool.eq_false_iff.1 hs)
    refine ⟨s.voices[v], s.channels[v], s.mx.marks[v], s.age, s.game, s.sys, ?_, fun _ => ⟨rfl, rfl, rfl⟩, rfl,
      .inl rfl⟩
    rw [frameVoice_silent hs, part, Mixer.add_zero, Mixer.setMark_same, putAt_self, putAt_self]
  | true =>
    cases hf : s.voices[v].samples s.channels[v].fifo with
    | none =>
      have part : s.framePart v = s.voices[v].last := by simp only [State.framePart, hs, hf, if_true]
      refine ⟨s.voices[v], s.channels[v], true, s.age, s.game, s.sys, ?_, nofun, rfl, .inl rfl⟩
      rw [frameVoice_starved hs hf, part, putAt_self, putAt_self]
    | some p =>
      obtain ⟨s0, s1⟩ := p
      have part : s.framePart v = s.voices[v].fresh s0 s1 := by simp only [State.framePart, hs, hf, if_true]
      have unmarked : (s.mx.add s.voices[v].owner (s.framePart v)).setMark v s.mx.marks[v] =
          s.mx.add s.voices[v].owner (s.framePart v) := by
        rw [← Mixer.add_marks s.mx s.voices[v].owner (s.framePart v), Mixer.setMark_same]
      obtain ⟨x, c, ag, g, y, advanced, dest, last⟩ :=
        advanceVoice_shape (s.fedBy v (s.voices[v].fresh s0 s1)) v
      rw [fedBy_voice] at dest last
      refine ⟨x, c, s.mx.marks[v], ag, g, y, ?_, nofun, dest, .inr ⟨s0, s1, last⟩⟩
      rw [frameVoice_fed hs hf, advanced, unmarked, part]
      simp only [State.fedBy, State.setVoice, putAt_putAt]

/-- Settles O29: the part by what the voice finds in its FIFO, and the kind of its last contribution by that of a fresh
one. -/
theorem voiceInFrame : Obligations.VoiceInFrame := by
  refine ⟨fun s v => ?_, fun mx x s0 s1 => ?_, fun s v w => ?_⟩
  · intro x fed
    have feeds (c : Contribution) : s.mx.add x.owner c = fed c := by
      dsimp only [fed]
      cases x.owner <;> rfl
    refine ⟨sounds_iff x, frameVoice_silent, fun h hf => ?_, fun s0 s1 h hf => ?_⟩
    · rw [frameVoice_starved h hf, feeds, Mixer.setMark, ← feeds, Mixer.add_marks]
    · intro pos n k after
      have arrived (n : Nat) : (s.fedBy v (x.fresh s0 s1)).movedTo v n = after n := by
        rw [fedBy_movedTo, feeds]
        rfl
      have record : (s.fedBy v (x.fresh s0 s1)).voices[v] = { x with last := x.fresh s0 s1 } := fedBy_voice _ _ _
      rw [frameVoice_fed h hf]
      refine ⟨fun hn => ?_, fun ls hl hs hn => ?_, fun hl hn => ?_⟩
      · rw [advanceVoice_within (by rw [record]; exact hn), record]
        exact arrived n
      · rw [advanceVoice_loops (by rw [record]; exact hl), record]
        exact (congrArg (State.movedTo _ v) (if_neg (Nat.not_lt.2 hn))).trans (arrived _)
      · rw [advanceVoice_oneShot (by rw [record]; exact hl), record]
        exact (if_pos hn).trans (congrArg (State.endVoice · v .endOfSample) (arrived n))
  · intro c
    refine ⟨fun h ho => ?_, fun h ho => ?_, fun h => add_fresh_motor h mx x.owner s0 s1⟩
    · rw [ho]; exact (add_fresh_speaker h mx s0 s1).1
    · rw [ho]; exact (add_fresh_speaker h mx s0 s1).2
  · intro kind hk
    obtain ⟨y, c, mark, ag, g, sy, hframe, _, dest, last⟩ := frameVoice_shape s v
    rw [hframe]
    show kind (putAt s.voices v y)[w]
    rw [getElem_putAt]
    split
    · next hw =>
      subst hw
      rcases last with last | ⟨s0, s1, last⟩
      · simpa only [kind, dest, last] using hk
      · simp only [kind, dest, last]
        exact ⟨fun h => by rw [fresh_speaker h], fun h => by rw [fresh_motor h]; exact ⟨rfl, rfl⟩⟩
    · exact hk

end Sys2Proof.Machine
end

section
/-! SUPPORT. The round of the voices in a frame: each takes its part from its own record and FIFO, so that the round
adds the parts of the state it began in (R22, R27 to R29). -/

namespace Sys2Proof.Machine

/-! ## What the voices of a list add -/

/-- The mixer with the parts of the voices of a list added, as a state stands. -/
def State.addParts (s : State) (l : List (Fin 16)) (mx : Mixer) : Mixer :=
  l.foldl (fun mx v => mx.add s.voices[v].owner (s.framePart v)) mx

/-- A part rests on the voice's own record and channel. -/
theorem framePart_congr {s t : State} {v : Fin 16} (hv : t.voices[v] = s.voices[v])
    (hc : t.channels[v] = s.channels[v]) : t.framePart v = s.framePart v := by
  unfold State.framePart
  rw [hv, hc]

theorem addParts_congr {s t : State} {l : List (Fin 16)} (hv : ∀ v ∈ l, t.voices[v] = s.voices[v])
    (hc : ∀ v ∈ l, t.channels[v] = s.channels[v]) (mx : Mixer) : t.addParts l mx = s.addParts l mx :=
  foldl_same fun mx v h => by rw [framePart_congr (hv v h) (hc v h), hv v h]

theorem Mixer.add_setMark (mx : Mixer) (v : Fin 16) (b : Bool) (m : Master) (c : Contribution) :
    (mx.setMark v b).add m c = (mx.add m c).setMark v b := by cases m <;> rfl

theorem addParts_setMark (s : State) (l : List (Fin 16)) (mx : Mixer) (v : Fin 16) (b : Bool) :
    s.addParts l (mx.setMark v b) = (s.addParts l mx).setMark v b := by
  unfold State.addParts
  induction l generalizing mx with
  | nil => rfl
  | cons w rest ih => rw [List.foldl_cons, Mixer.add_setMark, ih, List.foldl_cons]

/-- The voices of a list that a master owns, as a state stands. -/
def State.ownedBy (s : State) (l : List (Fin 16)) (m : Master) : List (Fin 16) :=
  l.filter fun v => s.voices[v].owner == m

theorem ownedBy_cons (s : State) (v : Fin 16) (rest : List (Fin 16)) (m : Master) : s.ownedBy (v :: rest) m =
    if s.voices[v].owner = m then v :: s.ownedBy rest m else s.ownedBy rest m := by
  unfold State.ownedBy
  rw [List.filter_cons]
  simp only [beq_iff_eq]

/-- Each accumulator takes the sum of what the voices add to it (R27, R28). -/
theorem addParts_eq (s : State) (l : List (Fin 16)) (mx : Mixer) : s.addParts l mx = { mx with
    alg := mx.alg + ((s.ownedBy l .game).map fun v => (s.framePart v).left).sum
    arg := mx.arg + ((s.ownedBy l .game).map fun v => (s.framePart v).right).sum
    als := mx.als + ((s.ownedBy l .system).map fun v => (s.framePart v).left).sum
    ars := mx.ars + ((s.ownedBy l .system).map fun v => (s.framePart v).right).sum
    am := mx.am + (l.map fun v => (s.framePart v).motor).sum } := by
  induction l generalizing mx with
  | nil => simp [State.addParts, State.ownedBy]
  | cons v rest ih =>
    have step : s.addParts (v :: rest) mx = s.addParts rest (mx.add s.voices[v].owner (s.framePart v)) := rfl
    rw [step, ih]
    simp only [ownedBy_cons]
    cases s.voices[v].owner with
    | game => simp [Mixer.add, Int.add_assoc]
    | system => simp [Mixer.add, Int.add_assoc]

/-! ## The round -/

/-- The round of the voices: their parts added, and the record, the channel and the mark of a voice that is not listed
or does not sound as they were (R22, R23). -/
theorem foldl_frameVoice {l : List (Fin 16)} (hn : l.Nodup) (s : State) : ∃ vs ag ch marks g y,
    l.foldl State.frameVoice s = { s with
      voices := vs, age := ag, channels := ch, mx := { s.addParts l s.mx with marks := marks }, game := g, sys := y }
    ∧ ∀ w : Fin 16, w ∉ l ∨ s.voices[w].sounds = false →
      vs[w] = s.voices[w] ∧ ch[w] = s.channels[w] ∧ marks[w] = s.mx.marks[w] := by
  induction l generalizing s with
  | nil => exact ⟨s.voices, s.age, s.channels, s.mx.marks, s.game, s.sys, rfl, fun w _ => ⟨rfl, rfl, rfl⟩⟩
  | cons v rest ih =>
    obtain ⟨hv, hrest⟩ := List.nodup_cons.1 hn
    obtain ⟨x, c, mark, ag, g, y, part, silent, _, _⟩ := frameVoice_shape s v
    generalize ht : s.frameVoice v = t at part
    have record (w : Fin 16) : t.voices[w] = if w = v then x else s.voices[w] := by
      rw [part]; exact getElem_putAt _ _ _ _
    have channel (w : Fin 16) : t.channels[w] = if w = v then c else s.channels[w] := by
      rw [part]; exact getElem_putAt _ _ _ _
    have marked (w : Fin 16) : t.mx.marks[w] = if w = v then mark else s.mx.marks[w] := by
      rw [part]
      show (putAt (s.mx.add s.voices[v].owner (s.framePart v)).marks v mark)[w] = _
      rw [Mixer.add_marks]; exact getElem_putAt _ _ _ _
    have other : ∀ w ∈ rest, w ≠ v := fun w hw h => hv (h ▸ hw)
    obtain ⟨vs, ag', ch, marks, g', y', round, kept⟩ := ih hrest t
    refine ⟨vs, ag', ch, marks, g', y', ?_, fun w hw => ?_⟩
    · have mixer : { t.addParts rest t.mx with marks := marks } =
          { s.addParts (v :: rest) s.mx with marks := marks } := by
        rw [addParts_congr (fun w hw => (record w).trans (if_neg (other w hw)))
          (fun w hw => (channel w).trans (if_neg (other w hw))), part]
        dsimp only
        rw [addParts_setMark]
        rfl
      rw [List.foldl_cons, ht, round, mixer, part]
    · by_cases hwv : w = v
      · subst hwv
        obtain ⟨hx, hc, hm⟩ := silent (hw.resolve_left fun h => h List.mem_cons_self)
        obtain ⟨h1, h2, h3⟩ := kept w (.inl hv)
        rw [h1, h2, h3, record, channel, marked, if_pos rfl, if_pos rfl, if_pos rfl]
        exact ⟨hx, hc, hm⟩
      · have hr : w ∉ rest ∨ t.voices[w].sounds = false := by
          rw [record, if_neg hwv]
          exact hw.imp_left fun h hm => h (List.mem_cons_of_mem _ hm)
        obtain ⟨h1, h2, h3⟩ := kept w hr
        rw [h1, h2, h3, record, channel, marked, if_neg hwv, if_neg hwv, if_neg hwv]
        exact ⟨rfl, rfl, rfl⟩

/-! ## The line's bits (R36) -/

/-- The value of one bit of a frame on the line. -/
def bitValue (b : Bool) : Int := if b then 1 else 0

theorem bitValue_testBit (x n : Nat) : bitValue (x.testBit n) = ((x / 2 ^ n % 2 : Nat) : Int) := by
  rw [← Nat.toNat_testBit]
  cases x.testBit n <;> rfl

/-- The low bits of a number, highest first, are the number modulo their power. -/
theorem sum_testBit (x n : Nat) :
    ((List.range n).map fun i => bitValue (x.testBit (n - 1 - i)) * 2 ^ (n - 1 - i)).sum =
      ((x % 2 ^ n : Nat) : Int) := by
  induction n with
  | zero => simp [Nat.mod_one]
  | succ n ih =>
    have low : (fun i => bitValue (x.testBit (n - (i + 1))) * 2 ^ (n - (i + 1)) : Nat → Int) =
        fun i => bitValue (x.testBit (n - 1 - i)) * 2 ^ (n - 1 - i) := by
      funext i
      rw [Nat.sub_sub, Nat.add_comm 1 i]
    rw [List.range_succ_eq_map, List.map_cons, List.sum_cons, List.map_map, Nat.mod_pow_succ]
    simp only [Function.comp_def, Nat.add_sub_cancel, Nat.sub_zero, Nat.succ_eq_add_one]
    have power : ((2 ^ n : Nat) : Int) = 2 ^ n := Int.natCast_pow 2 n
    rw [low, ih, bitValue_testBit, Int.natCast_add, Int.natCast_mul, power, Int.mul_comm, Int.add_comm]

/-- Sixteen bits in two's complement, highest first, are the number modulo 65,536. -/
theorem sum_sampleBits (x : Int) :
    ((List.range 15).map fun i => bitValue ((BitVec.ofInt 16 x).getLsbD (14 - i)) * 2 ^ (14 - i)).sum
      - 32768 * bitValue ((BitVec.ofInt 16 x).getLsbD 15) = x.bmod 65536 := by
  have low : ((List.range 15).map fun i => bitValue ((BitVec.ofInt 16 x).getLsbD (14 - i)) * 2 ^ (14 - i)).sum = _ :=
    sum_testBit (BitVec.ofInt 16 x).toNat 15
  have high : bitValue ((BitVec.ofInt 16 x).getLsbD 15) = _ := bitValue_testBit (BitVec.ofInt 16 x).toNat 15
  have value := BitVec.toInt_eq_toNat_cond (BitVec.ofInt 16 x)
  have bound := (BitVec.ofInt 16 x).isLt
  rw [BitVec.toInt_ofInt] at value
  rw [low, high]
  refine Eq.trans ?_ value.symm
  split <;> omega

/-- The k-th bit of a frame on the line, by its value; 0 past the end. -/
def State.lineBit (s : State) (k : Nat) : Int := if s.audioLine[k]? = some true then 1 else 0

theorem lineBit_left (s : State) {k : Nat} (h : k < 16) :
    s.lineBit k = bitValue ((BitVec.ofInt 16 s.mx.outL).getLsbD (15 - k)) := by
  have get : s.audioLine[k]? = _ :=
    (List.getElem?_append_left (by rwa [sampleBits_length])).trans (sampleBits_get s.mx.outL k h)
  rw [State.lineBit, get, bitValue]
  simp only [Option.some.injEq]

theorem lineBit_right (s : State) {k : Nat} (h : k < 16) :
    s.lineBit (16 + k) = bitValue ((BitVec.ofInt 16 s.mx.outR).getLsbD (15 - k)) := by
  have get : s.audioLine[16 + k]? = _ :=
    (List.getElem?_append_right (by rw [sampleBits_length]; omega)).trans
      ((congrArg _ (by rw [sampleBits_length]; omega)).trans (sampleBits_get s.mx.outR k h))
  rw [State.lineBit, get, bitValue]
  simp only [Option.some.injEq]

/-- The sixteen bits from the k-th on, read as one sample in two's complement, highest first. -/
def State.lineSample (s : State) (k : Nat) : Int :=
  ((List.range 15).map fun i => s.lineBit (k + 1 + i) * 2 ^ (14 - i)).sum - 32768 * s.lineBit k

/-- Bits from a place on that are a sample's read as that sample. -/
theorem lineSample_of_bits {s : State} {k : Nat} {x : Int}
    (h : ∀ i < 16, s.lineBit (k + i) = bitValue ((BitVec.ofInt 16 x).getLsbD (15 - i))) :
    s.lineSample k = x.bmod 65536 := by
  have rest : (List.range 15).map (fun i => s.lineBit (k + 1 + i) * 2 ^ (14 - i)) =
      (List.range 15).map fun i => bitValue ((BitVec.ofInt 16 x).getLsbD (14 - i)) * 2 ^ (14 - i) := by
    refine List.map_congr_left fun i hi => ?_
    have hi := List.mem_range.1 hi
    rw [Nat.add_assoc, h (1 + i) (by omega), show 15 - (1 + i) = 14 - i by omega]
  rw [State.lineSample, rest, ← sum_sampleBits x]
  exact congrArg (fun b => _ - 32768 * b) (h 0 (by omega))

end Sys2Proof.Machine
end

section
/-! SUPPORT. The frame in whole: the output formed from the accumulators, and the frame's obligation (R22, R32 to
R36). -/

namespace Sys2Proof.Machine

/-! ## Forming the output -/

/-- A value is saturated where it is not one of 16 bits (R33). -/
theorem saturate16_changes (x : Int) : (saturate16 x != x) = decide (x < -32768 ∨ 32767 < x) := by
  rw [Bool.eq_iff_iff, bne_iff_ne, decide_eq_true_eq]
  unfold saturate16 clampInt
  omega

/-- One channel before saturation, each quotient rounded down (R32, R33). -/
theorem channelOut_eq (mx : Mixer) (duck : Bool) (game system : Int) : mx.channelOut duck game system =
    (game * ((if duck then mx.mg * mx.dk / 256 else mx.mg : Nat) : Int)).fdiv 128 + (system * mx.ms).fdiv 128 := by
  simp (disch := decide) only [Int.fdiv_eq_ediv_of_nonneg]
  rfl

/-- The output formed from accumulators that a mixer's voices have filled: the game level ducked or not, each channel
saturated, a saturated frame counted once, the frame motor value, the frame counted, and the line a frame behind (R32 to
R34, R36). -/
theorem form_eq {mx w : Mixer} (duck : Bool) (h : w = { mx with
      alg := w.alg, arg := w.arg, als := w.als, ars := w.ars, am := w.am, marks := w.marks }) :
    let mg' : Nat := if duck then mx.mg * mx.dk / 256 else mx.mg
    let l : Int := (w.alg * mg').fdiv 128 + (w.als * mx.ms).fdiv 128
    let r : Int := (w.arg * mg').fdiv 128 + (w.ars * mx.ms).fdiv 128
    w.form duck = { w with
      nextL := max (-32768) (min 32767 l)
      nextR := max (-32768) (min 32767 r)
      outL := mx.nextL
      outR := mx.nextR
      clip := if l < -32768 ∨ 32767 < l ∨ r < -32768 ∨ 32767 < r then min 65535 (mx.clip + 1) else mx.clip
      frameMotor := max (-32768) (min 32767 w.am)
      frames := mx.frames + 1
      duckLast := duck } := by
  intro mg' l r
  generalize w.alg = alg, w.arg = arg, w.als = als, w.ars = ars, w.am = am, w.marks = marks at h l r ⊢
  subst h
  unfold Mixer.form
  dsimp only
  rw [saturate16_changes, saturate16_changes, channelOut_eq, channelOut_eq]
  simp only [Bool.or_eq_true, decide_eq_true_eq, or_assoc]
  rfl

theorem exec_audioFrame {s : State} (hp : s.powered = true) (hh : s.bl.phase ≠ .held) :
    exec .audioFrame s = .next (if s.tickDue then s.mixerTick else s).computeFrame.arbitrate :=
  (if_pos hp).trans (if_neg hh)

theorem exec_mixerTick {s : State} (hp : s.powered = true) (hd : s.tickDue = true) :
    exec .mixerTick s = .next s.mixerTick := if_pos (Bool.and_eq_true_iff.2 ⟨hp, hd⟩)

/-- The tick leaves the supply and the phase, and returns the frame counter (R35). -/
theorem mixerTick_counter (s : State) : s.mixerTick.bm = s.bm ∧ s.mixerTick.bl = s.bl ∧ s.mixerTick.mx.frames = 0 := by
  obtain ⟨vs, ch, tick, _⟩ := mixerTick_eq s
  obtain ⟨fl, g, y, faulted⟩ := tickFaulted_frame s
  obtain ⟨r, fl', g', y', rumble⟩ := rumbleTick_frame { s.tickFaulted with
    voices := vs, age := s.age.filter fun v => !s.tickEnds v, channels := ch, mx := s.mx.handOver }
  rw [tick, rumble, faulted]
  exact ⟨rfl, rfl, rfl⟩

/-- Settles O28: the round's sums, the output formed from them, the tick still due, and the line's bits. -/
theorem frameForms : Obligations.FrameForms := by
  refine ⟨fun s hp hh hf => ?_, fun s hp hh hf => ?_, fun s => ?_⟩
  · intro u duck mg' l r
    obtain ⟨vs, ag, ch, marks, g, y, round, kept⟩ := foldl_frameVoice voiceNumbers_nodup { s with mx := s.mx.clear }
    have hu : u = _ := round
    rw [addParts_eq] at hu
    have settings : u.mx = { s.mx with
        alg := u.mx.alg, arg := u.mx.arg, als := u.mx.als, ars := u.mx.ars, am := u.mx.am, marks := u.mx.marks } := by
      rw [hu]
      rfl
    refine ⟨?_, by rw [hu], settings, ?_, fun v hv => ?_⟩
    · have due : ¬s.tickDue = true := by
        rw [State.tickDue, decide_eq_true_eq]
        exact Nat.not_le.2 hf
      have frame : s.computeFrame = { u with mx := u.mx.form duck } := rfl
      rw [exec_audioFrame hp hh, if_neg due, frame, form_eq duck settings]
    · intro part of
      have parts : part = ({ s with mx := s.mx.clear } : State).framePart := rfl
      rw [hu, parts]
      exact ⟨Int.zero_add _, Int.zero_add _, Int.zero_add _, Int.zero_add _, Int.zero_add _⟩
    · rw [hu]
      exact kept v (.inr hv)
  · have due : s.tickDue = true := decide_eq_true hf
    obtain ⟨bm, bl, frames⟩ := mixerTick_counter s
    have powered : s.mixerTick.powered = true := by rw [State.powered, bm]; exact hp
    have fresh : ¬s.mixerTick.tickDue = true := by
      rw [State.tickDue, frames]
      decide
    have running : s.mixerTick.bl.phase ≠ .held := fun h => hh ((congrArg Boot.phase bl).symm.trans h)
    have next := exec_audioFrame powered running
    rw [if_neg fresh] at next
    refine ⟨_, exec_mixerTick hp due, frames, _, next, ?_⟩
    rw [exec_audioFrame hp hh, if_pos due]
  · have left : s.lineSample 0 = s.mx.outL.bmod 65536 := lineSample_of_bits fun i hi => by
      rw [Nat.zero_add, lineBit_left s hi]
    have right : s.lineSample 16 = s.mx.outR.bmod 65536 := lineSample_of_bits fun i hi => lineBit_right s hi
    exact ⟨audioLine_length s, left, right⟩

end Sys2Proof.Machine
end

section
/-! SUPPORT. What the game processor has no right to change (10.9), and the operations that its requests come down to,
each of which leaves it alone. -/

namespace Sys2Proof.Machine

/-! ## The system processor's side of a state -/

/-- The battery domain, the clock's console half, the rumble driver, the duck factor, the system mix level, the battery
monitor, and the loaded configuration with the phase. -/
def State.systemSide (s : State) :
    BatteryDomain × ClockConsole × Rumble × Nat × Nat × Monitor × LoadedConfig × StartPhase :=
  (s.bd, s.gc, s.rd, s.mx.dk, s.mx.ms, s.bm, s.bl.cfg, s.bl.phase)

@[simp] theorem State.systemSide_mk (vs ag mx ch pma rd bd gc ss fl bm bl game sys rom sram bus out free pend) :
    State.systemSide ⟨vs, ag, mx, ch, pma, rd, bd, gc, ss, fl, bm, bl, game, sys, rom, sram, bus, out, free,
      pend⟩ = (bd, gc, rd, mx.dk, mx.ms, bm, bl.cfg, bl.phase) := rfl

@[simp] theorem State.fields_systemSide (s : State) :
    (s.bd, s.gc, s.rd, s.mx.dk, s.mx.ms, s.bm, s.bl.cfg, s.bl.phase) = s.systemSide := rfl

@[simp] theorem State.systemSide_ite (c : Prop) [Decidable c] (s t : State) :
    (if c then s else t).systemSide = if c then s.systemSide else t.systemSide := apply_ite State.systemSide c s t

/-! ## Ports and faults -/

@[simp] theorem State.setQueues_systemSide (s : State) (m : Master) (q : Queues) :
    (s.setQueues m q).systemSide = s.systemSide := by cases m <;> rfl

@[simp] theorem State.reply_systemSide (s : State) (m : Master) (r : Reply) :
    (s.reply m r).systemSide = s.systemSide := s.setQueues_systemSide m _

@[simp] theorem State.answer_systemSide (s : State) (a : Ask) (c : Code) (r : List Byte) :
    (s.answer a c r).systemSide = s.systemSide := s.reply_systemSide a.m _

@[simp] theorem State.refuse_systemSide (s : State) (a : Ask) (c : Code) :
    (s.refuse a c).systemSide = s.systemSide := s.answer_systemSide a c []

@[simp] theorem State.reserveSlot_systemSide (s : State) (m : Master) :
    (s.reserveSlot m).systemSide = s.systemSide := s.setQueues_systemSide m _

@[simp] theorem State.setRequests_systemSide (s : State) (m : Master) (rs : List Request) :
    (s.setRequests m rs).systemSide = s.systemSide := s.setQueues_systemSide m _

@[simp] theorem State.noPlace_systemSide (s : State) (m : Master) : (s.noPlace m).systemSide = s.systemSide := by
  cases m <;> rfl

@[simp] theorem State.denyRight_systemSide (s : State) (a : Ask) (x : Option Nat) :
    (s.denyRight a x).systemSide = s.systemSide := by
  obtain ⟨fl, g, y, h⟩ := postFault_frame (s.refuse a .denied) .accessDenied (concernOf a.m) x
  exact (congrArg State.systemSide h).trans (s.refuse_systemSide a .denied)

@[simp] theorem State.clearReply_systemSide (s : State) (a : Ask) (fl : FaultLog) (n : Nat) :
    (s.clearReply a fl n).systemSide = s.systemSide := State.answer_systemSide _ a _ _

/-! ## The bus and the voices -/

@[simp] theorem State.arbitrate_systemSide (s : State) : s.arbitrate.systemSide = s.systemSide := by
  obtain ⟨ch, p, ops, n, h⟩ := arbitrate_frame s
  simp [h]

@[simp] theorem State.setStore_systemSide (s : State) (ss : Store) : (s.setStore ss).systemSide = s.systemSide := rfl

@[simp] theorem State.pushOps_systemSide (s : State) (ops : List StoreOp) :
    (s.pushOps ops).systemSide = s.systemSide := rfl

@[simp] theorem State.setVoice_systemSide (s : State) (v : Fin 16) (x : Voice) :
    (s.setVoice v x).systemSide = s.systemSide := rfl

@[simp] theorem State.endVoice_systemSide (s : State) (v : Fin 16) (r : EndReason) :
    (s.endVoice v r).systemSide = s.systemSide := by
  obtain ⟨vs, ag, ch, g, y, h⟩ := endVoice_frame s v r
  simp [h]

@[simp] theorem State.allocate_systemSide (s : State) (m : Master) (p : VoiceStart) (v : Fin 16) :
    (s.allocate m p v).systemSide = s.systemSide := rfl

/-! ## The store -/

@[simp] theorem State.appendEntry_systemSide (s : State) (e : Entry) :
    (s.appendEntry e).systemSide = s.systemSide := by
  obtain ⟨ss, g, y, h⟩ := appendEntry_frame s e
  simp [h]

@[simp] theorem State.endTxn_systemSide (s : State) (m : Master) : (s.endTxn m).systemSide = s.systemSide := by
  obtain ⟨ss, p, g, y, h⟩ := endTxn_frame s m
  simp [h]

@[simp] theorem State.closeCursor_systemSide (s : State) (m : Master) :
    (s.closeCursor m).systemSide = s.systemSide := by
  obtain ⟨ss, p, g, y, h⟩ := closeCursor_frame s m
  simp [h]

@[simp] theorem State.overtake_systemSide (s : State) (m : Master) (slot : Fin 32) (x : LostReason) :
    (s.overtake m slot x).systemSide = s.systemSide := by
  obtain ⟨ss, p, g, y, h⟩ := overtake_frame s m slot x
  simp [h]

@[simp] theorem State.advanceVerify_systemSide (n : Nat) (s : State) :
    (State.advanceVerify n s).systemSide = s.systemSide := by
  obtain ⟨ss, g, y, h⟩ := advanceVerify_frame n s
  simp [h]

/-! ## The jobs -/

theorem withHandle_systemSide {a : Ask} {b : Byte} {s : State} {act : Fin 16 → State}
    (h : ∀ v, (act v).systemSide = s.systemSide) : (withHandle a b s act).systemSide = s.systemSide := by
  simp [withHandle, h]

theorem withSlot_systemSide {a : Ask} {b : Byte} {right : Fin 32 → Bool} {s : State} {act : Fin 32 → State}
    (h : ∀ slot, (act slot).systemSide = s.systemSide) : (withSlot a b right s act).systemSide = s.systemSide := by
  unfold withSlot; split <;> simp [h]

theorem jobVoiceStart_systemSide (a : Ask) (p : VoiceStart) (s : State) :
    (jobVoiceStart a p s).systemSide = s.systemSide := by
  unfold jobVoiceStart
  split
  · split
    · simp
    · split <;> simp
  · simp

theorem jobVoiceRelease_systemSide (a : Ask) (b : Byte) (s : State) :
    (jobVoiceRelease a b s).systemSide = s.systemSide :=
  withHandle_systemSide fun _ => by split <;> simp

/-- The game processor's MIX_LEVEL sets its own level and no other (R37). -/
theorem jobMixLevel_systemSide {a : Ask} (ha : a.m = .game) (l : Option Word) (c : Bool) (s : State) :
    (jobMixLevel a l c s).systemSide = s.systemSide := by
  unfold jobMixLevel
  rw [mixLevel_eq, ha]
  simp

theorem jobFaultClearIndex_systemSide (a : Ask) (i : Byte) (s : State) :
    (jobFaultClearIndex a i s).systemSide = s.systemSide := by unfold jobFaultClearIndex; split <;> simp

theorem jobSaveData_systemSide (a : Ask) (bytes : List Byte) (s : State) :
    (jobSaveData a bytes s).systemSide = s.systemSide := by unfold jobSaveData; split <;> simp

theorem jobSaveCommit_systemSide (a : Ask) (s : State) : (jobSaveCommit a s).systemSide = s.systemSide := by
  unfold jobSaveCommit
  split
  · simp
  · split <;> simp

theorem jobSaveAbort_systemSide (a : Ask) (s : State) : (jobSaveAbort a s).systemSide = s.systemSide := by
  unfold jobSaveAbort; split <;> simp

theorem jobLoadOpen_systemSide (a : Ask) (b : Byte) (s : State) : (jobLoadOpen a b s).systemSide = s.systemSide :=
  withSlot_systemSide fun _ => by dsimp only; split <;> simp

theorem jobLoadData_systemSide (a : Ask) (n : Byte) (s : State) : (jobLoadData a n s).systemSide = s.systemSide := by
  unfold jobLoadData
  split
  · simp
  · split <;> simp [State.acceptLoad]

/-- The game processor has no right to copy (R137). -/
theorem jobSlotCopy_systemSide {a : Ask} (ha : a.m = .game) (x y : Byte) (s : State) :
    (jobSlotCopy a x y s).systemSide = s.systemSide := by
  unfold jobSlotCopy
  split
  · simp [copyInRight, ha]
  · simp

theorem jobStoreVerify_systemSide (a : Ask) (x y : Byte) (s : State) :
    (jobStoreVerify a x y s).systemSide = s.systemSide := by
  have placed : ∀ sc, (s.placeVerify a sc).systemSide = s.systemSide := by
    intro sc
    unfold State.placeVerify
    cases s.ss.verify with
    | none => simp
    | some v => cases s.ss.pendingVerify <;> simp
  unfold jobStoreVerify
  split <;> simp [placed]

/-- Every job that the game processor's request is handed to leaves the system processor's side alone: those of the
system processor's own requests by their refusal (10.9). -/
theorem runJob_systemSide {a : Ask} (ha : a.m = .game) (q : Req) (s : State) :
    (runJob a q s).systemSide = s.systemSide := by
  cases q with
  | voiceStart p => exact jobVoiceStart_systemSide a p s
  | voiceSet p => exact withHandle_systemSide fun v => by simp
  | voiceRelease h => exact jobVoiceRelease_systemSide a h s
  | voiceStop h => exact withHandle_systemSide fun v => by simp
  | voiceQuery h => simp [runJob, jobVoiceQuery]
  | mixLevel l c => exact jobMixLevel_systemSide ha l c s
  | duckSet f => simp [runJob, jobDuckSet, ha]
  | rumbleEnable on => simp [runJob, jobRumbleEnable, ha]
  | rumbleStrength x => simp [runJob, jobRumbleStrength, ha]
  | rumbleResume => simp [runJob, jobRumbleResume, ha]
  | rumbleStatus => exact s.answer_systemSide a _ _
  | clockRead => exact s.answer_systemSide a _ _
  | clockSet d => simp [runJob, jobClockSet, ha]
  | zoneSet z => simp [runJob, jobZoneSet, ha]
  | trimSet t => simp [runJob, jobTrimSet, ha]
  | rateCheck n => simp [runJob, jobRateCheck, ha]
  | storeInfo => exact s.answer_systemSide a _ _
  | slotInfo b => exact withSlot_systemSide fun slot => s.answer_systemSide a _ _
  | saveOpen b l => exact withSlot_systemSide fun slot => by simp
  | saveData bytes => exact jobSaveData_systemSide a bytes s
  | saveCommit => exact jobSaveCommit_systemSide a s
  | saveAbort => exact jobSaveAbort_systemSide a s
  | loadOpen b => exact jobLoadOpen_systemSide a b s
  | loadData n => exact jobLoadData_systemSide a n s
  | loadClose => simp [runJob, jobLoadClose]
  | slotErase b => exact withSlot_systemSide fun slot => by simp
  | slotCopy x y => exact jobSlotCopy_systemSide ha x y s
  | slotLock b on => exact withSlot_systemSide fun slot => by simp
  | storeVerify x y => exact jobStoreVerify_systemSide a x y s
  | faultRead i => unfold runJob jobFaultRead; dsimp only; split <;> simp
  | faultClearIndex i => exact jobFaultClearIndex_systemSide a i s
  | faultClearAllMine => simp [runJob, jobFaultClearAllMine]
  | faultClearOverflow => simp [runJob, jobFaultClearOverflow, ha]
  | faultClearOther x i => simp [runJob]
  | partInfo c => simp [runJob, jobPartInfo]

/-! ## The game port -/

theorem takeReq_systemSide (s : State) (tag : Byte) (q : Req) :
    (s.takeReq .game tag q).systemSide = s.systemSide := by
  unfold State.takeReq
  split
  · exact runJob_systemSide rfl q s
  · simp

theorem handOver_systemSide (s : State) (r : Request) : (s.handOver .game r).systemSide = s.systemSide := by
  unfold State.handOver
  split
  · simp
  · rw [takeReq_systemSide, State.reserveSlot_systemSide]

/-- The requests ahead in the game port's queue are the game processor's as well (R168). -/
theorem drain_systemSide (n : Nat) (s : State) : (State.drain .game n s).systemSide = s.systemSide := by
  induction n generalizing s with
  | zero => rfl
  | succ n ih =>
    unfold State.drain
    split
    · rfl
    · split
      · rw [ih, handOver_systemSide, State.setRequests_systemSide]
      · rfl

theorem arrive_systemSide (s : State) (tag : Byte) (q : Req) : (s.arrive .game tag q).systemSide = s.systemSide := by
  unfold State.arrive State.arriveRaw State.enqueue State.drainAll
  split
  · rw [takeReq_systemSide, State.reserveSlot_systemSide]
  · split
    · rw [drain_systemSide, State.setRequests_systemSide]
    · simp

/-- A request's command is its request arriving at its master's port (log entry 3). -/
theorem exec_request {m : Master} {tag : Byte} {q : Req} {c : Instr} (h : requestCommand m tag q = some c) (s : State) :
    exec c s = receive m tag q s := by
  cases q <;> cases h <;> rfl

/-- Settles O9: the game port hands its requests to jobs that leave the system processor's side alone. -/
theorem gameRequestsLeave : Obligations.GameRequestsLeave := by
  intro tag q c s t hc ht
  rw [exec_request hc, receive] at ht
  have same : t.systemSide = s.systemSide := by
    split at ht
    · rw [← Host.Outcome.next.inj ht]
      exact arrive_systemSide s tag q
    · rw [← Host.Outcome.next.inj ht]
  simpa only [State.systemSide, Prod.mk.injEq] using same

end Sys2Proof.Machine
end

section
/-! SUPPORT. The configuration block: its fields as numbers, their ranges, and the count of those changed (R157, R158,
R175). -/

namespace Sys2Proof.Machine

/-! ## Fields -/

theorem field_zero (bytes : List Byte) (offset : Nat) : field bytes offset 0 = 0 := by simp [field, leNat]

/-- A field is its first byte and 256 times the rest (R174). -/
theorem field_succ (bytes : List Byte) (offset width : Nat) : field bytes offset (width + 1) =
    ((bytes[offset]?).map (·.toNat)).getD 0 + 256 * field bytes (offset + 1) width := by
  unfold field
  by_cases h : offset < bytes.length
  · rw [List.drop_eq_getElem_cons h, List.take_succ_cons, List.getElem?_eq_getElem h]
    rfl
  · rw [List.drop_eq_nil_of_le (by omega), List.drop_eq_nil_of_le (by omega), List.getElem?_eq_none (by omega)]
    simp [leNat]

/-! ## Ranges -/

theorem min_eq_clamp (hi x : Nat) : min hi x = clamp 0 hi x := (Nat.zero_max _).symm

theorem eq_clamp_iff {lo hi : Nat} (h : lo ≤ hi) (x : Nat) : x = clamp lo hi x ↔ lo ≤ x ∧ x ≤ hi := by
  unfold clamp
  omega

theorem clamp_clamp (lo hi x : Nat) : clamp lo hi (clamp lo hi x) = clamp lo hi x := by
  unfold clamp
  omega

/-- The ranges of the fields (R158). -/
theorem clampConfig_ranges (c : LoadedConfig) : let k := clampConfig c
    64 ≤ k.romBytes ∧ k.romBytes ≤ 16777216 ∧ 1 ≤ k.ng ∧ k.ng ≤ 30 ∧ 256 ≤ k.maxLength
      ∧ k.maxLength ≤ 32768 ∧ k.guarantee ≤ 4 ∧ k.gameLevel ≤ 255 ∧ k.systemLevel ≤ 255
      ∧ k.strength ≤ 4 ∧ 256 ≤ k.pc ∧ k.pc ≤ 2047 ∧ 1 ≤ k.td ∧ k.td ≤ 255 ∧ k.tm ≤ k.pc
      ∧ 1 ≤ k.dutyCap ∧ k.dutyCap ≤ 100 ∧ k.tb ≤ 15 ∧ k.boundary ≤ 86399 := by
  simp only [clampConfig, clamp, romSize]
  omega

/-- A configuration brought into its ranges is left by doing so again (R158). -/
theorem clampConfig_clampConfig (c : LoadedConfig) : clampConfig (clampConfig c) = clampConfig c := by
  simp only [clampConfig, min_eq_clamp, clamp_clamp]

/-! ## The count of the fields changed -/

/-- The places at which two lists differ. -/
def changes (xs ys : List Nat) : Nat := ((xs.zip ys).filter fun p => p.1 != p.2).length

theorem changes_cons (x y : Nat) (xs ys : List Nat) :
    changes (x :: xs) (y :: ys) = (if x = y then 0 else 1) + changes xs ys := by
  unfold changes
  rw [List.zip_cons_cons, List.filter_cons]
  by_cases h : x = y
  · simp [h]
  · simp [h, Nat.add_comm]

theorem changes_eq_zero {xs ys : List Nat} (h : xs.length = ys.length) : changes xs ys = 0 ↔ xs = ys := by
  induction xs generalizing ys with
  | nil => simp [List.length_eq_zero_iff.1 h.symm, changes]
  | cons x xs ih =>
    cases ys with
    | nil => cases h
    | cons y ys =>
      rw [changes_cons, List.cons.injEq, ← ih (Nat.succ.inj h)]
      by_cases hxy : x = y <;> simp [hxy]

theorem clampedCount_eq (c : LoadedConfig) : clampedCount c = changes c.numbers (clampConfig c).numbers := rfl

/-- A configuration is its numbers and its two flags. -/
theorem eq_of_numbers {c d : LoadedConfig} (hn : c.numbers = d.numbers) (hv : c.visible = d.visible)
    (hs : c.scan = d.scan) : c = d := by
  cases c
  cases d
  simp_all [LoadedConfig.numbers]

/-- No field was changed exactly where the configuration was in its ranges (R157). -/
theorem clampedCount_eq_zero (c : LoadedConfig) : clampedCount c = 0 ↔ clampConfig c = c := by
  rw [clampedCount_eq, changes_eq_zero (by rfl)]
  exact ⟨fun h => (eq_of_numbers h rfl rfl).symm, fun h => by rw [h]⟩

/-! ## The block -/

theorem configAccepted_iff (b : List Byte) : configAccepted b = true ↔
    field b 0 4 = 0xD41E7B02 ∧ field b 62 2 = (crc16 (b.take 62)).toNat := by
  rw [configAccepted, Bool.and_eq_true_iff, beq_iff_eq, beq_iff_eq]
  rfl

/-- A stored number brought into its range (R158). -/
def within (b : List Byte) (low high offset width : Nat) : Nat := max low (min high (field b offset width))

/-- Whether bringing a stored number into its range changes it, as a count (R157). -/
def changed (b : List Byte) (low high offset width : Nat) : Nat :=
  if low ≤ field b offset width ∧ field b offset width ≤ high then 0 else 1

/-- The block's fields, each brought into its range (R158, R175). -/
theorem clampConfig_storedConfig (b : List Byte) : clampConfig (storedConfig b) =
    { romBytes := within b 64 16777216 4 4, ng := within b 1 30 8 1
      visible := decide (field b 9 1 ≠ 0), maxLength := within b 256 32768 10 2
      scan := decide (field b 12 1 ≠ 0), guarantee := within b 0 4 13 1
      gameLevel := within b 0 255 14 2, systemLevel := within b 0 255 16 2, strength := within b 0 4 18 1
      tb := within b 0 15 19 1, pc := within b 256 2047 20 2, td := within b 1 255 22 2
      tm := within b 0 (within b 256 2047 20 2) 24 2
      dutyCap := within b 1 100 26 1, boundary := within b 0 86399 28 4 } := by
  have set (x : Nat) : (x != 0) = decide (x ≠ 0) := by simp [bne, BEq.beq]
  unfold clampConfig storedConfig
  simp only [min_eq_clamp, set]
  rfl

theorem clampedCount_storedConfig (b : List Byte) : clampedCount (storedConfig b) =
    changed b 64 16777216 4 4 + changed b 1 30 8 1 + changed b 256 32768 10 2
      + changed b 0 4 13 1 + changed b 0 255 14 2 + changed b 0 255 16 2 + changed b 0 4 18 1 + changed b 0 15 19 1
      + changed b 256 2047 20 2 + changed b 1 255 22 2 + changed b 0 (within b 256 2047 20 2) 24 2
      + changed b 1 100 26 1 + changed b 0 86399 28 4 := by
  have one {lo hi : Nat} (h : lo ≤ hi) (offset width : Nat) :
      (if field b offset width = within b lo hi offset width then 0 else 1) = changed b lo hi offset width :=
    ite_congr (propext (eq_clamp_iff h _)) (fun _ => rfl) (fun _ => rfl)
  rw [clampedCount_eq, clampConfig_storedConfig]
  have none : changes [] [] = 0 := rfl
  simp only [LoadedConfig.numbers, storedConfig, changes_cons, none]
  iterate 13 rw [one (by omega)]
  omega

end Sys2Proof.Machine
end

section
/-! SUPPORT. Console power-up: the faults it can log into an empty log, and the first grant (R144, R153, R156). -/

namespace Sys2Proof.Machine

/-! ## A fault written -/

theorem recordFault_frame (s : State) (fl : FaultLog) (i : Fin 8) :
    ∃ g y, s.recordFault fl i = { s with fl := fl, game := g, sys := y } := by
  obtain ⟨g, y, h⟩ := faultNotice_frame { s with fl := fl } s.fl i .game
  obtain ⟨g', y', h'⟩ := faultNotice_frame ({ s with fl := fl, game := g, sys := y }) s.fl i .system
  exact ⟨g', y', by rw [State.recordFault, h, h']⟩

/-- The log with a fault written at W (R144, step 3). -/
def FaultLog.written (fl : FaultLog) (k : FaultKind) (c : Concerned) (subject : Option Nat) (sec : Nat) : FaultLog :=
  { fl.setRecord fl.w { valid := true, kind := k, concerned := c, subject := subject, sec := sec, repeats := 1 } with
    w := fl.w + 1 }

/-- Outside overflow, a fault that the newest record does not absorb is written where record W is free (R144). -/
theorem postFault_written {s : State} {k : FaultKind} {x : Option Nat} (c : Concerned) (ho : s.fl.overflow = false)
    (hn : ∀ i, s.fl.newest = some i → s.fl.records[i].equals k x = false) (hw : s.fl.records[s.fl.w].valid = false) :
    ∃ g y, s.postFault k c x = { s with fl := s.fl.written k c x s.bd.sec, game := g, sys := y } := by
  have written : s.writeFault k c x = s.recordFault (s.fl.written k c x s.bd.sec) s.fl.w :=
    if_neg (by rw [hw]; decide)
  obtain ⟨g, y, h⟩ := recordFault_frame s (s.fl.written k c x s.bd.sec) s.fl.w
  refine ⟨g, y, Eq.trans ?_ h⟩
  rw [State.postFault, if_neg (by rw [ho]; decide), ← written]
  split
  · next i hi => exact if_neg (by rw [hn i hi]; decide)
  · rfl

/-! ## The power-up check -/

/-- The log that the power-up check leaves of an empty one (R153). -/
def powerUpLog (weak lost : Bool) (sec : Nat) : FaultLog :=
  let fl := if weak then FaultLog.initial.written .batteryWeak .both none sec else FaultLog.initial
  if lost then fl.written .batteryLost .both none sec else fl

/-- The level at power-up, with its fault (R153). -/
theorem checkBattery_first {s : State} (weak : Bool) (hl : s.fl = FaultLog.initial) (hw : s.bm.weakLogged = false) :
    ∃ g y, s.checkBattery weak = { s with
      bm := { s.bm with weak := weak, weakLogged := weak }, fl := powerUpLog weak false s.bd.sec, game := g, sys := y }
    ∧ (weak = false → g = s.game ∧ y = s.sys) := by
  cases weak with
  | false =>
    refine ⟨s.game, s.sys, ?_, fun _ => ⟨rfl, rfl⟩⟩
    have log : powerUpLog false false s.bd.sec = s.fl := hl.symm
    have monitor : ({ s.bm with weak := false, weakLogged := false } : Monitor) = { s.bm with weak := false } := by
      rw [← hw]
    rw [log, monitor]
    rfl
  | true =>
    have due : (true && !s.bm.weakLogged) = true := by rw [hw]; rfl
    obtain ⟨g, y, written⟩ := postFault_written (s := { s with bm := { s.bm with weak := true, weakLogged := true } })
      (k := .batteryWeak) (x := none) .both (by rw [hl]; rfl) (by rw [hl]; exact nofun) (by rw [hl]; rfl)
    exact ⟨g, y, (if_pos due).trans (written.trans (by rw [hl]; rfl)), nofun⟩

/-- The power-up check on an empty log: the level and the marker, each with its fault, and the marker cleared (R153). -/
theorem powerUpCheck_first {s : State} (weak : Bool) (hl : s.fl = FaultLog.initial) (hw : s.bm.weakLogged = false) :
    ∃ g y, s.powerUpCheck weak = { s with
      bd := { s.bd with marker := false }
      bm := { s.bm with weak := weak, weakLogged := weak, lostAtPowerUp := s.bd.marker }
      fl := powerUpLog weak s.bd.marker s.bd.sec, game := g, sys := y }
    ∧ (weak = false → s.bd.marker = false → g = s.game ∧ y = s.sys) := by
  obtain ⟨g, y, checked, quiet⟩ := checkBattery_first weak hl hw
  have marker : (s.checkBattery weak).bd.marker = s.bd.marker := by rw [checked]
  cases hm : s.bd.marker with
  | false =>
    have kept : ({ s.bd with marker := false } : BatteryDomain) = s.bd := by rw [← hm]
    refine ⟨g, y, (if_neg (by rw [marker, hm]; decide)).trans ?_, fun h _ => quiet h⟩
    rw [checked, kept]
  | true =>
    have free : (powerUpLog weak false s.bd.sec).overflow = false
        ∧ (∀ i, (powerUpLog weak false s.bd.sec).newest = some i →
          (powerUpLog weak false s.bd.sec).records[i].equals .batteryLost none = false)
        ∧ (powerUpLog weak false s.bd.sec).records[(powerUpLog weak false s.bd.sec).w].valid = false := by
      cases weak with
      | false => exact ⟨rfl, nofun, rfl⟩
      | true => exact ⟨rfl, fun i hi => by rw [← Option.some.inj hi]; rfl, rfl⟩
    obtain ⟨overflow, newest, record⟩ := free
    obtain ⟨g', y', written⟩ := postFault_written (s := s.checkBattery weak) (k := .batteryLost) (x := none) .both
      (by rw [checked]; exact overflow) (by rw [checked]; exact newest) (by rw [checked]; exact record)
    refine ⟨g', y', (if_pos (by rw [marker, hm])).trans ?_, fun _ h => nomatch h⟩
    dsimp only
    rw [written, checked]
    rfl

/-! ## The power-up in whole -/

/-- The boot loader's claim comes first where the starvation guard does not act (R48, R49, R51). -/
theorem arbitrate_boot {s : State} (hp : s.powered = true) (hi : s.pma.inFlight = none) (hg : s.guardActs = false)
    (hb : s.bl.claims = true) : s.arbitrate = s.grantBoot := by
  have boot : s.grantChoice = some .boot := (if_neg (by rw [hg]; decide)).trans (if_pos hb)
  have decides : (s.powered && s.pma.inFlight.isNone) = true := by rw [hp, hi]; rfl
  rw [State.arbitrate, if_pos decides, boot]

/-- The battery domain that the power-up finds (R150). -/
def State.domainAtPowerUp (s : State) : BatteryDomain :=
  if s.bm.supply = .batteryLost then BatteryDomain.restarted else s.bd

theorem restartIfLost_consoleInitial (s : State) :
    s.restartIfLost.consoleInitial = { s.consoleInitial with bd := s.domainAtPowerUp } := by
  unfold State.restartIfLost State.domainAtPowerUp
  split <;> rfl

/-- CONSOLE_POWER_UP: the check's log and ports, every console block at its initial values, and the configuration's
first burst granted (R153, R156). -/
theorem exec_consolePowerUp {s : State} (weak : Bool) (hp : s.powered = false) : ∃ g y,
    exec (.consolePowerUp weak) s = .next { s.consoleInitial with
      bd := { s.domainAtPowerUp with gateOpen := true, marker := false }
      bm := { supply := .consoleOn, weak := weak, lostAtPowerUp := s.domainAtPowerUp.marker, weakLogged := weak }
      bl := { Boot.initial with granted := 1 }
      pma := { inFlight := some (.boot 0 false), runCount := 0 }
      fl := powerUpLog weak s.domainAtPowerUp.marker s.domainAtPowerUp.sec, game := g, sys := y }
    ∧ (weak = false → s.domainAtPowerUp.marker = false → g = GamePort.initial ∧ y = SystemPort.initial) := by
  obtain ⟨g, y, checked, quiet⟩ := powerUpCheck_first
    (s := { s.consoleInitial with bd := { s.domainAtPowerUp with gateOpen := true } }) weak rfl rfl
  refine ⟨g, y, (if_neg (by rw [hp]; decide)).trans ?_, quiet⟩
  dsimp only
  rw [restartIfLost_consoleInitial, checked, arbitrate_boot rfl rfl rfl rfl]
  rfl

end Sys2Proof.Machine
end

section
/-! SUPPORT. The loading of the configuration: its values handed to their users, before or after the faults that go with
them, and the obligation of power-up and configuration (R55, R157 to R159). -/

namespace Sys2Proof.Machine

/-! ## A fault looks at the log, the ports and the clock alone -/

/-- A state with the log and the ports of another. -/
def State.withReports (s u : State) : State := { s with fl := u.fl, game := u.game, sys := u.sys }

theorem faultNotice_withReports (s u : State) (b : FaultLog) (i : Fin 8) (m : Master) :
    (s.withReports u).faultNotice b i m = s.withReports (u.faultNotice b i m) := by
  unfold State.faultNotice
  dsimp only [State.withReports]
  split
  · cases m <;> rfl
  · rfl

theorem recordFault_withReports (s u : State) (fl : FaultLog) (i : Fin 8) :
    (s.withReports u).recordFault fl i = s.withReports (u.recordFault fl i) := by
  unfold State.recordFault
  dsimp only
  rw [← faultNotice_withReports, ← faultNotice_withReports]
  rfl

theorem writeFault_withReports {s u : State} (h : s.bd = u.bd) (k : FaultKind) (c : Concerned) (x : Option Nat) :
    (s.withReports u).writeFault k c x = s.withReports (u.writeFault k c x) := by
  have sec : (s.withReports u).bd.sec = u.bd.sec := congrArg BatteryDomain.sec h
  unfold State.writeFault
  rw [sec]
  dsimp only
  split
  · next hv => rw [if_pos (show u.fl.records[u.fl.w].valid = true from hv)]; rfl
  · next hv =>
    rw [if_neg (show ¬u.fl.records[u.fl.w].valid = true from hv), ← recordFault_withReports]
    rfl

theorem postFault_withReports {s u : State} (h : s.bd = u.bd) (k : FaultKind) (c : Concerned) (x : Option Nat) :
    (s.withReports u).postFault k c x = s.withReports (u.postFault k c x) := by
  have same : (s.withReports u).fl = u.fl := rfl
  unfold State.postFault
  rw [same, writeFault_withReports h]
  split
  · rfl
  · split
    · split
      · rw [recordFault_withReports]
      · rfl
    · rfl

/-- A fault before or after a change that has nothing to do with the log, the ports and the clock. -/
theorem postFault_comm {f : State → State} (hf : ∀ s u, f (s.withReports u) = (f s).withReports u)
    (hb : ∀ s, (f s).bd = s.bd) (s : State) (k : FaultKind) (c : Concerned) (x : Option Nat) :
    (f s).postFault k c x = f (s.postFault k c x) := by
  obtain ⟨fl, g, y, posted⟩ := postFault_frame s k c x
  have own : s.withReports (s.postFault k c x) = s.postFault k c x := by rw [posted]; rfl
  have before : f s = (f s).withReports s := hf s s
  calc (f s).postFault k c x = ((f s).withReports s).postFault k c x := by rw [← before]
    _ = (f s).withReports (s.postFault k c x) := postFault_withReports (hb s) k c x
    _ = f (s.postFault k c x) := by rw [← hf, own]

/-! ## The values handed out -/

/-- The driver with the loaded strength, DISABLED where that condition holds (R55, R159). -/
def Rumble.loaded (r : Rumble) (cfg : LoadedConfig) : Rumble :=
  let r := { r with strength := cfg.strength, staleTimer := staleCounts }
  if r.disabledCondition then r.force cfg.td .disabled else r

theorem disabledCondition_iff (r : Rumble) : r.disabledCondition = true ↔ r.enabled = false ∨ r.strength = 0 := by
  simp [Rumble.disabledCondition]

theorem loaded_cutoffInput (r : Rumble) (cfg : LoadedConfig) : (r.loaded cfg).cutoffInput = r.cutoffInput := by
  unfold Rumble.loaded
  dsimp only
  split <;> rfl

/-- The state with the values in force handed to their users and the mount begun (R100, R159). -/
def State.takeConfig (s : State) : State :=
  ({ s with mx := { s.mx with mg := s.bl.cfg.gameLevel, ms := s.bl.cfg.systemLevel }
            bl := { s.bl with phase := .loaded }, rd := s.rd.loaded s.bl.cfg } : State).startMount

theorem postFault_takeConfig (s : State) (k : FaultKind) (c : Concerned) (x : Option Nat) :
    s.takeConfig.postFault k c x = (s.postFault k c x).takeConfig :=
  postFault_comm (f := State.takeConfig) (fun _ _ => rfl) (fun _ => rfl) s k c x

/-- The mount's reads, page A's before page B's (R100). -/
theorem startMount_eq (s : State) : s.startMount = { s with ss := { s.ss with
    state := .mounting, mount := some { pageA := [], pageB := [], scan := none }, dir := Directory.initial
    ops := s.ss.ops
      ++ (List.range 64).map (fun i => { owner := .mountPage .a i, addr := 32 * i, bytes := none })
      ++ (List.range 64).map (fun i => { owner := .mountPage .b i, addr := 2048 + 32 * i, bytes := none }) } } := by
  have first : mountOps .a = (List.range 64).map
      fun i => { owner := .mountPage .a i, addr := 32 * i, bytes := none } :=
    List.map_congr_left fun i _ => by rw [pageBase, Nat.zero_add]; rfl
  unfold State.startMount
  rw [first]
  rfl

theorem postFault_startMount (s : State) (k : FaultKind) (c : Concerned) (x : Option Nat) :
    s.startMount.postFault k c x = (s.postFault k c x).startMount :=
  postFault_comm (f := State.startMount) (fun _ _ => rfl) (fun _ => rfl) s k c x

/-- The hand-out: an active cutoff input is then taken as going active (R55, R65). -/
theorem handOut_eq (s : State) : s.handOut = if s.rd.cutoffInput then
      (({ s.takeConfig with rd := (s.rd.loaded s.bl.cfg).force s.bl.cfg.td .cutoff } : State).postMotor
        .cutoffInput).postFault .motorCutoff .both none
    else s.takeConfig := by
  have unfolded : s.handOut = ((if (s.rd.loaded s.bl.cfg).cutoffInput then
      ({ s with mx := { s.mx with mg := s.bl.cfg.gameLevel, ms := s.bl.cfg.systemLevel }
                bl := { s.bl with phase := .loaded }, rd := s.rd.loaded s.bl.cfg } : State).latchCutoff .cutoffInput
    else { s with mx := { s.mx with mg := s.bl.cfg.gameLevel, ms := s.bl.cfg.systemLevel }
                  bl := { s.bl with phase := .loaded }, rd := s.rd.loaded s.bl.cfg }) : State).startMount := rfl
  rw [unfolded, loaded_cutoffInput]
  split
  · exact (postFault_startMount _ .motorCutoff .both none).symm
  · rfl

/-- CONFIG_BURST_COMPLETE for a burst of the block (R157). -/
theorem exec_configBurstComplete {s : State} {i : Nat} {d : Bool} (hp : s.powered = true)
    (hb : s.pma.inFlight = some (.boot i d)) (hi : i ≤ 1) : exec .configBurstComplete s = .next
      (if d then s.busFree else s.busFree.configArrives i (s.rom.readBytes romBlank (32 * i) 32)).arbitrate := by
  have inside : burstBytes * i + burstBytes ≤ romSize := by
    unfold burstBytes romSize
    omega
  show execConfigBurstComplete s = _
  unfold execConfigBurstComplete
  rw [if_pos hp, hb]
  exact if_pos inside

/-- The second burst: the block checked, and the values handed out (R157, R159). -/
theorem configArrives_last (s : State) (bytes : List Byte) : s.configArrives 1 bytes =
    (({ s with bl := { s.bl with bytes := s.bl.bytes ++ bytes } } : State).checkConfig (s.bl.bytes ++ bytes)).handOut :=
  rfl

/-- The check, with a block that is not accepted logged (R157). -/
theorem checkConfig_eq (s : State) (b : List Byte) : s.checkConfig b =
    if configAccepted b then
      { s with bl := { s.bl with
          cfg := clampConfig (storedConfig b), source := .block, clamped := clampedCount (storedConfig b) } }
    else ({ s with bl := { s.bl with cfg := builtIn, source := .defaults, clamped := 0 } } : State).postFault
      .configInvalid .both none := rfl

/-- Settles O59: the power-up check on an empty log, the block's fields in their ranges, and the values handed out. -/
theorem powerAndConfig : Obligations.PowerAndConfig := by
  refine ⟨fun weak s hp => ?_, fun s hp hi => ?_, fun i s hp hb hi => ?_, fun s hp hb => ?_, fun c => ?_,
    fun s => ⟨rfl, rfl, fun _ => rfl, rfl, rfl, rfl, rfl, rfl, rfl⟩, rfl, fun bytes offset width => ?_⟩
  · intro bd
    obtain ⟨g, y, powered, quiet⟩ := exec_consolePowerUp weak hp
    refine ⟨_, powered, rfl, fun hw hm => ?_, fun hw => ?_, fun hm => ?_⟩
    · obtain ⟨game, system⟩ := quiet hw hm
      refine ⟨?_, game, system⟩
      show powerUpLog weak bd.marker bd.sec = _
      rw [hw, hm]
      rfl
    · show (powerUpLog weak bd.marker bd.sec).records[0] = _
      rw [hw]
      cases bd.marker <;> rfl
    · show (powerUpLog weak bd.marker bd.sec).records[(if weak then 1 else 0 : Fin 8)] = _
      rw [hm]
      cases weak <;> rfl
  · rw [exec_configBurstComplete hp hi (by decide)]
    rfl
  · rw [exec_configBurstComplete hp hb hi]
    rfl
  · intro b good within changed pc block cfg clamped strong driver loaded judged cut
    generalize hw : ({ s.busFree with bl := { s.bl with
      cfg := cfg, bytes := b, source := if good then .block else .defaults
      clamped := if good then clamped else 0 } } : State) = w
    have toDriver : s.rd.loaded cfg = driver :=
      ite_congr (propext (disabledCondition_iff strong)) (fun _ => rfl) (fun _ => rfl)
    have toLoaded : w.takeConfig = loaded := by
      rw [State.takeConfig, startMount_eq, ← hw]
      dsimp only
      rw [show s.busFree.rd.loaded cfg = driver from toDriver]
      rfl
    have checked : ({ s.busFree with bl := { s.bl with bytes := b } } : State).checkConfig b =
        if good then w else w.postFault .configInvalid .both none := by
      rw [checkConfig_eq, ← hw]
      by_cases hg : good
      · have toBlock : clampConfig (storedConfig b) = cfg := (clampConfig_storedConfig b).trans (if_pos hg).symm
        rw [if_pos ((configAccepted_iff b).2 hg), if_pos hg, if_pos hg, if_pos hg, toBlock, clampedCount_storedConfig]
        rfl
      · have toDefaults : builtIn = cfg := (if_neg hg).symm
        rw [if_neg (mt (configAccepted_iff b).1 hg), if_neg hg, if_neg hg, if_neg hg, toDefaults]
    have settled : s.busFree.configArrives 1 (s.rom.readBytes romBlank 32 32) =
        (if good then w else w.postFault .configInvalid .both none).handOut :=
      (configArrives_last _ _).trans (congrArg State.handOut checked)
    have toJudged : (if good then w else w.postFault .configInvalid .both none).takeConfig = judged := by
      by_cases hg : good
      · exact (congrArg State.takeConfig (if_pos hg)).trans (toLoaded.trans (if_pos hg).symm)
      · rw [if_neg hg, ← postFault_takeConfig, toLoaded]
        exact (if_neg hg).symm
    have inForce : (if good then w else w.postFault .configInvalid .both none).rd = s.rd
        ∧ (if good then w else w.postFault .configInvalid .both none).bl.cfg = cfg := by
      obtain ⟨fl, g, y, posted⟩ := postFault_frame w .configInvalid .both none
      rw [posted]
      split
      · rw [← hw]; exact ⟨rfl, rfl⟩
      · rw [← hw]; exact ⟨rfl, rfl⟩
    obtain ⟨rumble, config⟩ := inForce
    rw [exec_configBurstComplete hp hb (by decide)]
    refine congrArg (fun u => Host.Outcome.next (State.arbitrate u)) (settled.trans ?_)
    rw [handOut_eq, toJudged, rumble, config, toDriver]
  · intro k
    exact ⟨clampConfig_ranges c, clampConfig_clampConfig c, (clampedCount_eq_zero k).2 (clampConfig_clampConfig c),
      (clampedCount_eq_zero c).1⟩
  · exact ⟨field_zero bytes offset, field_succ bytes offset width⟩

end Sys2Proof.Machine
end

section
/-! SUPPORT. The sample ROM and the save SRAM as a step sees them, and the operations that leave both alone: all but
the end of a write burst, the supply failing and the loss of the contents (R50, R150, R155). -/

namespace Sys2Proof.Machine

/-! ## The two memories of a state -/

/-- The contents of the sample ROM and of the save SRAM. -/
def State.memories (s : State) : Memory × Memory := (s.rom, s.sram)

@[simp] theorem State.memories_mk (vs ag mx ch pma rd bd gc ss fl bm bl game sys rom sram bus out free pend) :
    State.memories ⟨vs, ag, mx, ch, pma, rd, bd, gc, ss, fl, bm, bl, game, sys, rom, sram, bus, out, free,
      pend⟩ = (rom, sram) := rfl

@[simp] theorem State.rom_sram_memories (s : State) : (s.rom, s.sram) = s.memories := rfl

@[simp] theorem State.memories_ite (c : Prop) [Decidable c] (s t : State) :
    (if c then s else t).memories = if c then s.memories else t.memories := apply_ite State.memories c s t

/-- A round of operations that each leave the memories alone. -/
theorem foldl_memories {α : Type} {f : State → α → State} (hf : ∀ s x, (f s x).memories = s.memories) (l : List α)
    (s : State) : (l.foldl f s).memories = s.memories :=
  foldl_keeps (P := fun t => t.memories = s.memories) (fun t x h => (hf t x).trans h) l rfl

/-! ## Ports and faults -/

@[simp] theorem State.setQueues_memories (s : State) (m : Master) (q : Queues) :
    (s.setQueues m q).memories = s.memories := by cases m <;> rfl

@[simp] theorem State.reply_memories (s : State) (m : Master) (r : Reply) : (s.reply m r).memories = s.memories :=
  s.setQueues_memories m _

@[simp] theorem State.answer_memories (s : State) (a : Ask) (c : Code) (r : List Byte) :
    (s.answer a c r).memories = s.memories := s.reply_memories a.m _

@[simp] theorem State.refuse_memories (s : State) (a : Ask) (c : Code) : (s.refuse a c).memories = s.memories :=
  s.answer_memories a c []

@[simp] theorem State.post_memories (s : State) (m : Master) (n : Notice) : (s.post m n).memories = s.memories :=
  s.setQueues_memories m _

@[simp] theorem State.postBoth_memories (s : State) (n : Notice) : (s.postBoth n).memories = s.memories := by
  simp [State.postBoth]

@[simp] theorem State.reserveSlot_memories (s : State) (m : Master) : (s.reserveSlot m).memories = s.memories :=
  s.setQueues_memories m _

@[simp] theorem State.setRequests_memories (s : State) (m : Master) (rs : List Request) :
    (s.setRequests m rs).memories = s.memories := s.setQueues_memories m _

@[simp] theorem State.postFault_memories (s : State) (k : FaultKind) (c : Concerned) (x : Option Nat) :
    (s.postFault k c x).memories = s.memories := by
  obtain ⟨fl, g, y, h⟩ := postFault_frame s k c x
  simp [h]

@[simp] theorem State.denyRight_memories (s : State) (a : Ask) (x : Option Nat) :
    (s.denyRight a x).memories = s.memories := by simp [State.denyRight]

@[simp] theorem State.clearReply_memories (s : State) (a : Ask) (fl : FaultLog) (n : Nat) :
    (s.clearReply a fl n).memories = s.memories := by simp [State.clearReply]

/-! ## The bus and the voices -/

@[simp] theorem State.arbitrate_memories (s : State) : s.arbitrate.memories = s.memories := by
  obtain ⟨ch, p, ops, n, h⟩ := arbitrate_frame s
  simp [h]

@[simp] theorem State.setStore_memories (s : State) (ss : Store) : (s.setStore ss).memories = s.memories := rfl

@[simp] theorem State.pushOps_memories (s : State) (ops : List StoreOp) : (s.pushOps ops).memories = s.memories := rfl

@[simp] theorem State.setVoice_memories (s : State) (v : Fin 16) (x : Voice) :
    (s.setVoice v x).memories = s.memories := rfl

@[simp] theorem State.setChannel_memories (s : State) (v : Fin 16) (c : Channel) :
    (s.setChannel v c).memories = s.memories := rfl

@[simp] theorem State.endVoice_memories (s : State) (v : Fin 16) (r : EndReason) :
    (s.endVoice v r).memories = s.memories := by
  obtain ⟨vs, ag, ch, g, y, h⟩ := endVoice_frame s v r
  simp [h]

@[simp] theorem State.allocate_memories (s : State) (m : Master) (p : VoiceStart) (v : Fin 16) :
    (s.allocate m p v).memories = s.memories := rfl

@[simp] theorem State.starveOut_memories (s : State) (v : Fin 16) : (s.starveOut v).memories = s.memories := by
  simp [State.starveOut]

theorem State.deliverFetch_memories (s : State) (v : Fin 16) (bytes : List Byte) :
    (s.deliverFetch v bytes).memories = s.memories := by simp [State.deliverFetch]

/-! ## The mixer and the rumble driver -/

@[simp] theorem State.advanceVoice_memories (s : State) (v : Fin 16) :
    (s.advanceVoice v).memories = s.memories := by
  unfold State.advanceVoice
  dsimp only
  split <;> simp

theorem State.frameVoice_memories (s : State) (v : Fin 16) : (s.frameVoice v).memories = s.memories := by
  unfold State.frameVoice
  dsimp only
  split
  · split <;> simp
  · rfl

@[simp] theorem State.computeFrame_memories (s : State) : s.computeFrame.memories = s.memories := by
  simp [State.computeFrame, foldl_memories State.frameVoice_memories]

theorem State.envelopeVoice_memories (s : State) (v : Fin 16) : (s.envelopeVoice v).memories = s.memories := by
  unfold State.envelopeVoice
  dsimp only
  split <;> simp

theorem State.starveVoice_memories (s : State) (v : Fin 16) : (s.starveVoice v).memories = s.memories := by
  simp [State.starveVoice]

@[simp] theorem State.rumbleTick_memories (s : State) : s.rumbleTick.memories = s.memories := by
  obtain ⟨r, fl, g, y, h⟩ := rumbleTick_frame s
  simp [h]

@[simp] theorem State.mixerTick_memories (s : State) : s.mixerTick.memories = s.memories := by
  simp [State.mixerTick, State.applyStaged, foldl_memories State.envelopeVoice_memories,
    foldl_memories State.starveVoice_memories]

@[simp] theorem State.runClock_memories (s : State) (n : Nat) : (s.runClock n).memories = s.memories := by
  obtain ⟨r, g, y, h⟩ := runClock_frame s n
  simp [h]

@[simp] theorem State.postMotor_memories (s : State) (x : MotorReason) : (s.postMotor x).memories = s.memories :=
  s.postBoth_memories _

@[simp] theorem State.latchCutoff_memories (s : State) (x : MotorReason) : (s.latchCutoff x).memories = s.memories := by
  simp [State.latchCutoff]

theorem State.cutoffLevel_memories (s : State) (b : Bool) : (s.cutoffLevel b).memories = s.memories := by
  simp [State.cutoffLevel, State.cutoffChanged]

/-! ## The game clock -/

@[simp] theorem State.checkBattery_memories (s : State) (weak : Bool) :
    (s.checkBattery weak).memories = s.memories := by
  obtain ⟨bm, fl, g, y, h⟩ := checkBattery_frame s weak
  simp [h]

@[simp] theorem State.evaluateDay_memories (s : State) : s.evaluateDay.memories = s.memories := by
  obtain ⟨g, y, h⟩ := evaluateDay_frame s
  simp [h]

@[simp] theorem State.endRateCheck_memories (s : State) (c : Code) (r : List Byte) :
    (s.endRateCheck c r).memories = s.memories := by simp [State.endRateCheck]

@[simp] theorem State.rateTicks_memories (s : State) (n : Nat) : (s.rateTicks n).memories = s.memories := by
  simp [State.rateTicks]

@[simp] theorem State.toSecond_memories (s : State) (weak : Bool) : (s.toSecond weak).memories = s.memories := by
  obtain ⟨bd, bm, fl, g, y, h⟩ := secondBoundary_frame (s.rateTicks s.bd.ticksLeft) weak
  simp [State.toSecond, h]

theorem State.toSeconds_memories (n : Nat) (weak : Bool) (s : State) :
    (State.toSeconds n weak s).memories = s.memories := by
  induction n generalizing s with
  | zero => exact s.toSecond_memories weak
  | succ n ih => rw [State.toSeconds, ih, State.toSecond_memories]

@[simp] theorem State.passTicks_memories (fuel n : Nat) (s : State) :
    (State.passTicks fuel n s).memories = s.memories := by
  induction fuel generalizing n s with
  | zero => rfl
  | succ fuel ih => simp [State.passTicks, State.draw, ih]

/-! ## The store -/

@[simp] theorem State.takeTurns_memories (s : State) : s.takeTurns.memories = s.memories := by
  obtain ⟨ss, g, y, h⟩ := turns_frame s.ss.commits s
  simp [State.takeTurns, h]

@[simp] theorem State.appendEntry_memories (s : State) (e : Entry) : (s.appendEntry e).memories = s.memories :=
  State.takeTurns_memories _

@[simp] theorem State.completeMount_memories (s : State) : s.completeMount.memories = s.memories := by
  simp [State.completeMount, State.handOverDay]

theorem State.pageBurst_memories (s : State) : s.pageBurst.memories = s.memories := by
  unfold State.pageBurst
  split
  · rfl
  · next w _ =>
    have written : (s.pageWritten w).memories = s.memories := by
      unfold State.pageWritten State.endOrphan State.commitFormat State.commitEntry
      cases w.entry <;> simp
    simp [written]

@[simp] theorem State.markSlot_memories (s : State) (slot : Fin 32) : (s.markSlot slot).memories = s.memories := by
  simp [State.markSlot, State.slotDamaged]

@[simp] theorem State.scanFrom_memories (slots : List (Fin 32)) (s : State) :
    (State.scanFrom slots s).memories = s.memories := by
  induction slots generalizing s with
  | nil => exact s.completeMount_memories
  | cons slot rest ih => unfold State.scanFrom; split <;> simp [ih, State.beginScan]

theorem State.checkSlot_memories (page : List Byte) (acc : State × List Nat) (slot : Fin 32) :
    (State.checkSlot page acc slot).1.memories = acc.1.memories := by
  unfold State.checkSlot; dsimp only; split <;> simp [State.slotDamaged]

@[simp] theorem State.mountOn_memories (s : State) (p : PageId) (page : List Byte) (r : MountResult) :
    (s.mountOn p page r).memories = s.memories := by
  have built : ∀ u : State, (u.buildFrom p page).memories = u.memories := fun u =>
    foldl_keeps (P := fun acc : State × List Nat => acc.1.memories = u.memories)
      (fun acc slot h => (State.checkSlot_memories page acc slot).trans h) slotNumbers rfl
  simp [State.mountOn, State.scanOrComplete, built]

@[simp] theorem State.testPages_memories (s : State) (pa pb : List Byte) :
    (s.testPages pa pb).memories = s.memories := by
  simp [State.testPages, State.directoryDamaged, State.format, State.beginPage]

theorem State.mountArrives_memories (op : StoreOp) (bytes : List Byte) (s : State) :
    (State.mountArrives op bytes s).memories = s.memories := by
  unfold State.mountArrives
  split
  · next p _ _ _ => cases p <;> simp [State.pageArrives]
  · split <;> simp [State.scanArrives]
  · rfl

/-! ## The operations on saves -/

@[simp] theorem State.mismatch_memories (s : State) (slot : Fin 32) (n : Nat) :
    (s.mismatch slot n).memories = s.memories := by simp [State.mismatch]

theorem State.dataWritten_memories (op : StoreOp) (bytes : List Byte) (s : State) :
    (State.dataWritten op bytes s).memories = s.memories := by unfold State.dataWritten; split <;> simp

@[simp] theorem State.endTxn_memories (s : State) (m : Master) : (s.endTxn m).memories = s.memories := by
  obtain ⟨ss, p, g, y, h⟩ := endTxn_frame s m
  simp [h]

@[simp] theorem State.overtake_memories (s : State) (m : Master) (slot : Fin 32) (x : LostReason) :
    (s.overtake m slot x).memories = s.memories := by simp [State.overtake]

theorem State.copyArrives_memories (op : StoreOp) (bytes : List Byte) (s : State) :
    (State.copyArrives op bytes s).memories = s.memories := by
  unfold State.copyArrives; split <;> simp [State.copyDamaged]

theorem State.copyWritten_memories (op : StoreOp) (bytes : List Byte) (s : State) :
    (State.copyWritten op bytes s).memories = s.memories := by unfold State.copyWritten; split <;> simp

@[simp] theorem State.closeCursor_memories (s : State) (m : Master) : (s.closeCursor m).memories = s.memories := by
  obtain ⟨ss, p, g, y, h⟩ := closeCursor_frame s m
  simp [h]

theorem State.loadArrives_memories (op : StoreOp) (bytes : List Byte) (s : State) :
    (State.loadArrives op bytes s).memories = s.memories := by
  unfold State.loadArrives
  split
  · split
    · rfl
    · split <;> simp [State.finishLoad]
  · rfl

@[simp] theorem State.advanceVerify_memories (n : Nat) (s : State) :
    (State.advanceVerify n s).memories = s.memories := by
  obtain ⟨ss, g, y, h⟩ := advanceVerify_frame n s
  simp [h]

theorem State.verifyArrives_memories (op : StoreOp) (bytes : List Byte) (s : State) :
    (State.verifyArrives op bytes s).memories = s.memories := by
  unfold State.verifyArrives
  split
  · rfl
  · split <;> simp [State.verifyDone]

end Sys2Proof.Machine
end

section
/-! SUPPORT. The requests' jobs and the two ports leave both memories alone: what a request puts in SRAM it puts there
by the write bursts that it places (R50, R116). -/

namespace Sys2Proof.Machine

/-! ## The jobs -/

theorem withHandle_memories {a : Ask} {b : Byte} {s : State} {act : Fin 16 → State}
    (h : ∀ v, (act v).memories = s.memories) : (withHandle a b s act).memories = s.memories := by
  simp [withHandle, h]

theorem withSlot_memories {a : Ask} {b : Byte} {right : Fin 32 → Bool} {s : State} {act : Fin 32 → State}
    (h : ∀ slot, (act slot).memories = s.memories) : (withSlot a b right s act).memories = s.memories := by
  unfold withSlot; split <;> simp [h]

theorem jobVoiceStart_memories (a : Ask) (p : VoiceStart) (s : State) :
    (jobVoiceStart a p s).memories = s.memories := by
  unfold jobVoiceStart
  split
  · split
    · simp
    · split <;> simp
  · simp

theorem jobVoiceRelease_memories (a : Ask) (b : Byte) (s : State) :
    (jobVoiceRelease a b s).memories = s.memories := withHandle_memories fun _ => by split <;> simp

theorem jobFaultClearIndex_memories (a : Ask) (i : Byte) (s : State) :
    (jobFaultClearIndex a i s).memories = s.memories := by unfold jobFaultClearIndex; split <;> simp

theorem jobSaveData_memories (a : Ask) (bytes : List Byte) (s : State) :
    (jobSaveData a bytes s).memories = s.memories := by unfold jobSaveData; split <;> simp

theorem jobSaveCommit_memories (a : Ask) (s : State) : (jobSaveCommit a s).memories = s.memories := by
  unfold jobSaveCommit
  split
  · simp
  · split <;> simp

theorem jobSaveAbort_memories (a : Ask) (s : State) : (jobSaveAbort a s).memories = s.memories := by
  unfold jobSaveAbort; split <;> simp

theorem jobLoadOpen_memories (a : Ask) (b : Byte) (s : State) : (jobLoadOpen a b s).memories = s.memories :=
  withSlot_memories fun _ => by dsimp only; split <;> simp

theorem jobLoadData_memories (a : Ask) (n : Byte) (s : State) : (jobLoadData a n s).memories = s.memories := by
  unfold jobLoadData
  split
  · simp
  · split <;> simp [State.acceptLoad]

theorem jobSlotCopy_memories (a : Ask) (x y : Byte) (s : State) : (jobSlotCopy a x y s).memories = s.memories := by
  have checked : ∀ src dst, (copyChecked a src dst s).memories = s.memories := by
    intro src dst
    unfold copyChecked State.startCopy
    cases s.ss.dir.slots[src].body <;> simp
  unfold jobSlotCopy
  split <;> simp [checked]

theorem jobStoreVerify_memories (a : Ask) (x y : Byte) (s : State) :
    (jobStoreVerify a x y s).memories = s.memories := by
  have placed : ∀ sc, (s.placeVerify a sc).memories = s.memories := by
    intro sc
    unfold State.placeVerify
    cases s.ss.verify with
    | none => simp
    | some v => cases s.ss.pendingVerify <;> simp
  unfold jobStoreVerify
  split <;> simp [placed]

/-- No job writes a memory. -/
theorem runJob_memories (a : Ask) (q : Req) (s : State) : (runJob a q s).memories = s.memories := by
  cases q with
  | voiceStart p => exact jobVoiceStart_memories a p s
  | voiceSet p => exact withHandle_memories fun v => by simp
  | voiceRelease h => exact jobVoiceRelease_memories a h s
  | voiceStop h => exact withHandle_memories fun v => by simp
  | voiceQuery h => simp [runJob, jobVoiceQuery]
  | mixLevel l c => simp [runJob, jobMixLevel]
  | duckSet f => simp [runJob, jobDuckSet]
  | rumbleEnable on => simp [runJob, jobRumbleEnable]
  | rumbleStrength x => simp [runJob, jobRumbleStrength]
  | rumbleResume => simp [runJob, jobRumbleResume]
  | rumbleStatus => exact s.answer_memories a _ _
  | clockRead => exact s.answer_memories a _ _
  | clockSet d => simp [runJob, jobClockSet]
  | zoneSet z => simp [runJob, jobZoneSet]
  | trimSet t => simp [runJob, jobTrimSet]
  | rateCheck n => simp [runJob, jobRateCheck]
  | storeInfo => exact s.answer_memories a _ _
  | slotInfo b => exact withSlot_memories fun slot => s.answer_memories a _ _
  | saveOpen b l => exact withSlot_memories fun slot => by simp
  | saveData bytes => exact jobSaveData_memories a bytes s
  | saveCommit => exact jobSaveCommit_memories a s
  | saveAbort => exact jobSaveAbort_memories a s
  | loadOpen b => exact jobLoadOpen_memories a b s
  | loadData n => exact jobLoadData_memories a n s
  | loadClose => simp [runJob, jobLoadClose]
  | slotErase b => exact withSlot_memories fun slot => by simp
  | slotCopy x y => exact jobSlotCopy_memories a x y s
  | slotLock b on => exact withSlot_memories fun slot => by simp
  | storeVerify x y => exact jobStoreVerify_memories a x y s
  | faultRead i => unfold runJob jobFaultRead; dsimp only; split <;> simp
  | faultClearIndex i => exact jobFaultClearIndex_memories a i s
  | faultClearAllMine => simp [runJob, jobFaultClearAllMine]
  | faultClearOverflow => simp [runJob, jobFaultClearOverflow]
  | faultClearOther x i => simp [runJob]
  | partInfo c => simp [runJob, jobPartInfo]

/-! ## The ports -/

@[simp] theorem takeReq_memories (s : State) (m : Master) (tag : Byte) (q : Req) :
    (s.takeReq m tag q).memories = s.memories := by simp [State.takeReq, runJob_memories]

theorem handOver_memories (s : State) (m : Master) (r : Request) : (s.handOver m r).memories = s.memories := by
  unfold State.handOver; split <;> simp

@[simp] theorem drain_memories (m : Master) (n : Nat) (s : State) : (State.drain m n s).memories = s.memories := by
  induction n generalizing s with
  | zero => rfl
  | succ n ih =>
    unfold State.drain
    split
    · rfl
    · simp [ih, handOver_memories]

@[simp] theorem enqueue_memories (s : State) (m : Master) (r : Request) : (s.enqueue m r).memories = s.memories := by
  simp [State.enqueue, State.drainAll]

@[simp] theorem arriveRaw_memories (s : State) (m : Master) (r : Request) :
    (s.arriveRaw m r).memories = s.memories := by cases m <;> simp [State.arriveRaw, State.noPlace]

@[simp] theorem arrive_memories (s : State) (m : Master) (tag : Byte) (q : Req) :
    (s.arrive m tag q).memories = s.memories := by simp [State.arrive]

@[simp] theorem assemble_memories (s : State) (ws : List Word) : (s.assemble ws).memories = s.memories := by
  simp [State.assemble]

@[simp] theorem writeStatus_memories (s : State) (w : Word) : (s.writeStatus w).memories = s.memories := by
  simp [State.writeStatus]

@[simp] theorem linkByte_memories (s : State) (b : Byte) : (s.linkByte b).memories = s.memories := by
  unfold State.linkByte
  split <;> simp [State.frameComplete]

@[simp] theorem frameSent_memories (s : State) : s.frameSent.memories = s.memories := by
  simp [State.frameSent, State.drainAll]

@[simp] theorem sendByte_memories (s : State) : s.sendByte.memories = s.memories := by simp [State.sendByte]

theorem clockByte_memories (s : State) (b : Byte) : (s.clockByte b).memories = s.memories := by
  simp [State.clockByte]

/-! ## The idle step and the configuration read -/

@[simp] theorem idleClock_memories (s : State) : s.idleClock.memories = s.memories := by simp [State.idleClock]

@[simp] theorem idleCrystal_memories (s : State) : s.idleCrystal.memories = s.memories := by
  unfold State.idleCrystal
  split
  · dsimp only [State.draw]
    split <;> simp
  · rfl

@[simp] theorem idleLink_memories (s : State) : s.idleLink.memories = s.memories := by
  unfold State.idleLink
  split
  · dsimp only [State.draw]
    split <;> simp
  · rfl

theorem idle_memories (s : State) : s.idle.memories = s.memories := by simp [State.idle]

@[simp] theorem configArrives_memories (s : State) (i : Nat) (bytes : List Byte) :
    (s.configArrives i bytes).memories = s.memories := by
  simp [State.configArrives, State.handOut, State.checkConfig, State.rumbleLoad, State.startMount]

end Sys2Proof.Machine
end

section
/-! SUPPORT. Where a command may change a byte of SRAM, and with it every command and step; what the completion of a
store burst does, whether its work has ended or goes on (R50, R118, R150, R155). -/

namespace Sys2Proof.Machine

/-! ## The bytes within a command's reach -/

/-- A byte of the write burst in flight, with the console supply present and the write gate open (R50, R155). -/
def State.inWriteBurst (s : State) (a : Nat) : Prop :=
  s.powered = true ∧ s.bd.gateOpen = true ∧ ∃ op d bytes, s.pma.inFlight = some (.store op d)
    ∧ op.bytes = some bytes ∧ op.addr ≤ a ∧ a < op.addr + max 32 bytes.length

/-- The bytes of SRAM that a command may change: every byte when the contents are lost (R150), those of the write burst
in flight, and the last one of a page write in flight when the supply fails (log entry 8). -/
def State.sramReach (s : State) (c : Instr) (a : Nat) : Prop :=
  (c = .sramContentsLost ∧ s.bm.supply = .batteryLost) ∨ s.inWriteBurst a
    ∨ s.powered = true ∧ ∃ able w, c = .supplyFailing able ∧ s.ss.pageWrite = some w ∧ a = checkEnd w.target

/-- Where an outcome is a next state, it has the ROM as it was and an SRAM that differs within reach alone. -/
def writesWithin (s : State) (reach : Nat → Prop) (o : Host.Outcome State Fault Refusal) : Prop :=
  ∀ t, o = .next t → t.rom = s.rom
    ∧ ∀ a, t.sram.read sramBlank a ≠ s.sram.read sramBlank a → reach a

theorem writesWithin_next {s t : State} {reach : Nat → Prop} (hr : t.rom = s.rom)
    (ha : ∀ a, t.sram.read sramBlank a ≠ s.sram.read sramBlank a → reach a) : writesWithin s reach (.next t) := by
  intro u hu
  cases hu
  exact ⟨hr, ha⟩

theorem writesWithin_memories {s t : State} (reach : Nat → Prop) (h : t.memories = s.memories) :
    writesWithin s reach (.next t) := by
  obtain ⟨hr, hs⟩ := Prod.mk.inj h
  exact writesWithin_next hr fun a hne => absurd (by rw [hs]) hne

theorem writesWithin_fault (s : State) (reach : Nat → Prop) (f : Fault) : writesWithin s reach (.fault f) :=
  fun _ ht => nomatch ht

/-- A command that leaves the memories alone where its condition holds. -/
theorem guarded_memories {c : Prop} [Decidable c] {s t : State} (reach : Nat → Prop) (h : t.memories = s.memories) :
    writesWithin s reach (if c then .next t else .next s) := by
  split
  · exact writesWithin_memories reach h
  · exact writesWithin_memories reach rfl

/-! ## The completion of a store operation -/

/-- A burst's completion puts its own bytes in SRAM and no other, through the open gate alone (R50, R155). -/
theorem writeOut_writes {s : State} {op : StoreOp} {d : Bool} (hw : Memory.wf sramBlank s.sram)
    (hp : s.powered = true) (hi : s.pma.inFlight = some (.store op d)) {a : Nat}
    (hne : (s.busFree.writeOut op).sram.read sramBlank a ≠ s.sram.read sramBlank a) : s.inWriteBurst a := by
  unfold State.writeOut at hne
  split at hne
  · next bytes hb =>
    split at hne
    · next hg =>
      dsimp only [State.busFree_sram] at hne
      rw [Memory.read_writeBytes bytes op.addr a hw] at hne
      by_cases hin : op.addr ≤ a ∧ a < op.addr + bytes.length
      · exact ⟨hp, hg, op, d, bytes, hi, hb, hin.1, by omega⟩
      · exact absurd (if_neg hin) hne
    · exact absurd rfl hne
  · exact absurd rfl hne

/-- The work that goes on at a completion writes nothing more (R50). -/
theorem completeStore_writes {s : State} (c : Instr) {pick : OpOwner → Bool}
    {act : StoreOp → List Byte → State → State} (hw : Memory.wf sramBlank s.sram)
    (ha : ∀ op bytes u, (act op bytes u).memories = u.memories) :
    writesWithin s (s.sramReach c) (completeStore pick act s) := by
  intro t ht
  rcases completeStore_next ht with ⟨_, rfl⟩ | ⟨op, d, hc, _, rfl⟩
  · exact ⟨rfl, fun a hne => absurd rfl hne⟩
  · obtain ⟨hp, hi, _⟩ := completing_some hc
    have moved : (if d then s.busFree.writeOut op else act op (s.readBurst op)
        (s.busFree.writeOut op)).arbitrate.memories = (s.busFree.writeOut op).memories := by simp [ha]
    have rom : (s.busFree.writeOut op).rom = s.rom := by
      unfold State.writeOut
      split
      · split <;> rfl
      · rfl
    obtain ⟨hr, hs⟩ := Prod.mk.inj moved
    refine ⟨hr.trans rom, fun a hne => .inr (.inl (writeOut_writes hw hp hi (a := a) ?_))⟩
    rwa [hs] at hne

/-- A store burst in flight with the gate open completes: its bytes move, its work goes on unless it has ended, and the
arbiter decides (R47, R50). -/
theorem completeStore_inFlight {s : State} {op : StoreOp} {d : Bool} {pick : OpOwner → Bool}
    (act : StoreOp → List Byte → State → State) (h : s.storeInFlight op d) (hk : pick op.owner = true) :
    completeStore pick act s =
      .next (if d then s.burstDone op else act op (s.readBurst op) (s.burstDone op)).arbitrate := by
  obtain ⟨hp, hg, hi, ha⟩ := h
  have due : s.completing pick = some (op, d) := by simp [State.completing, hp, hi, hk]
  have out : s.busFree.writeOut op = s.burstDone op := by
    unfold State.writeOut State.burstDone State.busFree
    dsimp only
    rw [hg]
    cases op.bytes <;> rfl
  simp only [completeStore, due, out]
  exact if_pos ha

/-- A burst whose work has ended moves its bytes and does nothing else (R118; log entry 39). -/
theorem exec_completion_ended {s : State} {op : StoreOp} (h : s.storeInFlight op true) :
    exec (completionOf op.owner) s = .next (s.burstDone op).arbitrate := by
  have ended : ∀ {pick : OpOwner → Bool} (act : StoreOp → List Byte → State → State), pick op.owner = true →
      completeStore pick act s = .next (s.burstDone op).arbitrate := fun act hk => completeStore_inFlight act h hk
  cases ho : op.owner with
  | mountPage p i => exact ended State.mountArrives (by rw [ho]; rfl)
  | mountScan => exact ended State.mountArrives (by rw [ho]; rfl)
  | data m tag n => exact ended State.dataWritten (by rw [ho]; rfl)
  | page i => exact ended (fun _ _ u => u.pageBurst) (by rw [ho]; rfl)
  | copyRead => exact ended State.copyArrives (by rw [ho]; rfl)
  | copyWrite => exact ended State.copyWritten (by rw [ho]; rfl)
  | load m => exact ended State.loadArrives (by rw [ho]; rfl)
  | verify => exact ended State.verifyArrives (by rw [ho]; rfl)

/-! ## The supply -/

theorem execSupplyFailing_writes {s : State} (able : Bool) (hw : Memory.wf sramBlank s.sram) :
    writesWithin s (s.sramReach (.supplyFailing able)) (execSupplyFailing able s) := by
  cases hp : s.powered with
  | false => exact fun t ht => writesWithin_memories _ rfl t ((if_neg (by simp [hp])).symm.trans ht)
  | true =>
    obtain ⟨p, n, out, fl, g, y, failed⟩ := exec_supplyFailing able hp
    show writesWithin s _ (exec (.supplyFailing able) s)
    rw [failed]
    refine writesWithin_next rfl fun a hne => ?_
    rcases (cutWrites_spec hw).2 a with same | ⟨hg, op, d, bytes, hi, hb, hlo, hhi, _⟩ | ⟨w, ⟨hpw, _⟩, ha⟩
    · exact absurd same hne
    · exact .inr (.inl ⟨hp, hg, op, d, bytes, hi, hb, hlo, by omega⟩)
    · exact .inr (.inr ⟨hp, able, w, rfl, hpw, ha⟩)

theorem execSramContentsLost_writes (s : State) :
    writesWithin s (s.sramReach .sramContentsLost) (execSramContentsLost s) := by
  unfold execSramContentsLost
  split
  · next hl => exact writesWithin_next rfl fun a _ => .inl ⟨rfl, hl⟩
  · exact writesWithin_memories _ rfl

theorem execConsolePowerUp_writes {s : State} (reach : Nat → Prop) (weak : Bool) :
    writesWithin s reach (execConsolePowerUp weak s) := by
  cases hp : s.powered with
  | true => exact fun t ht => writesWithin_memories _ rfl t ((if_pos hp).symm.trans ht)
  | false =>
    obtain ⟨g, y, up, _⟩ := exec_consolePowerUp weak hp
    show writesWithin s _ (exec (.consolePowerUp weak) s)
    rw [up]
    exact writesWithin_memories _ rfl

/-! ## The commands that write nothing -/

theorem receive_writes {s : State} (reach : Nat → Prop) (m : Master) (tag : Byte) (q : Req) :
    writesWithin s reach (receive m tag q s) := guarded_memories reach (arrive_memories s m tag q)

theorem execReqWrite_writes {s : State} (reach : Nat → Prop) (w : Word) : writesWithin s reach (execReqWrite w s) := by
  unfold execReqWrite
  split
  · split
    · exact writesWithin_memories _ (assemble_memories s _)
    · split
      · exact writesWithin_memories _ (assemble_memories s _)
      · exact writesWithin_memories _ rfl
  · exact writesWithin_memories _ rfl

theorem execRspRead_writes {s : State} (reach : Nat → Prop) : writesWithin s reach (execRspRead s) := by
  unfold execRspRead
  split
  · split
    · exact writesWithin_memories _ rfl
    · dsimp only
      split
      · exact writesWithin_memories _ rfl
      · exact writesWithin_memories _ (by simp [State.drainAll])
  · exact writesWithin_memories _ rfl

theorem execNoteRead_writes {s : State} (reach : Nat → Prop) : writesWithin s reach (execNoteRead s) := by
  unfold execNoteRead
  split
  · split
    · exact writesWithin_memories _ rfl
    · dsimp only
      split <;> exact writesWithin_memories _ rfl
  · exact writesWithin_memories _ rfl

theorem execAudioFrame_writes {s : State} (reach : Nat → Prop) : writesWithin s reach (execAudioFrame s) := by
  unfold execAudioFrame
  split
  · split <;> exact writesWithin_memories _ (by simp)
  · exact writesWithin_memories _ rfl

theorem execVoiceStarve_writes {s : State} (reach : Nat → Prop) (v : Nat) :
    writesWithin s reach (execVoiceStarve v s) := by
  unfold execVoiceStarve
  split
  · exact guarded_memories reach (State.starveOut_memories s _)
  · exact writesWithin_memories _ rfl

theorem execFrameSyncEdge_writes {s : State} (reach : Nat → Prop) : writesWithin s reach (execFrameSyncEdge s) := by
  unfold execFrameSyncEdge
  split
  · split
    · exact writesWithin_memories _ rfl
    · exact writesWithin_memories _ rfl
    · dsimp only
      split <;> exact writesWithin_memories _ (by simp)
  · exact writesWithin_memories _ rfl

/-- A fetch burst reads the ROM and writes nothing (R42). -/
theorem execFetchBurstComplete_writes {s : State} (reach : Nat → Prop) :
    writesWithin s reach (execFetchBurstComplete s) := by
  unfold execFetchBurstComplete
  split
  · split
    · split
      · exact writesWithin_memories _ ((State.arbitrate_memories _).trans (State.deliverFetch_memories _ _ _))
      · exact writesWithin_fault s reach _
    · exact writesWithin_memories _ rfl
  · exact writesWithin_memories _ rfl

/-- A configuration burst reads the ROM and writes nothing (R157). -/
theorem execConfigBurstComplete_writes {s : State} (reach : Nat → Prop) :
    writesWithin s reach (execConfigBurstComplete s) := by
  unfold execConfigBurstComplete
  split
  · split
    · dsimp only
      split
      · have bus : s.busFree.memories = s.memories := rfl
        exact writesWithin_memories _ (by simp [bus])
      · exact writesWithin_fault s reach _
    · exact writesWithin_memories _ rfl
  · exact writesWithin_memories _ rfl

theorem execResetRelease_writes {s : State} (reach : Nat → Prop) : writesWithin s reach (execResetRelease s) := by
  unfold execResetRelease
  split
  · split <;> exact writesWithin_memories _ (by simp)
  · exact writesWithin_memories _ rfl

/-! ## Every command -/

/-- Every command leaves the ROM alone and changes SRAM within its reach: the completions by their burst, the supply
failing by the cut, the loss of the contents whole, and the others not at all. -/
theorem exec_writes {s : State} (c : Instr) (hw : Memory.wf sramBlank s.sram) :
    writesWithin s (s.sramReach c) (exec c s) := by
  have same : ∀ {t : State} {reach : Nat → Prop}, t.memories = s.memories → writesWithin s reach (.next t) :=
    fun ht => writesWithin_memories _ ht
  cases c with
  | badRequest m r => exact guarded_memories _ (arriveRaw_memories s m r)
  | reqWrite w => exact execReqWrite_writes _ w
  | rspRead => exact execRspRead_writes _
  | noteRead => exact execNoteRead_writes _
  | portStatusRead => exact guarded_memories _ rfl
  | discardAssembly => exact same (writeStatus_memories s _)
  | clearOverflow => exact same (writeStatus_memories s _)
  | writeAttentionEnable on => exact same (writeStatus_memories s _)
  | portStatusWrite w => exact same (writeStatus_memories s w)
  | registerWriteNoEffect loc w => exact same rfl
  | requestFrame bytes => exact guarded_memories _ (foldl_memories clockByte_memories bytes s)
  | sendFrame => exact guarded_memories _ (frameSent_memories s)
  | audioFrame => exact execAudioFrame_writes _
  | mixerTick => exact guarded_memories _ s.mixerTick_memories
  | voiceStarve v => exact execVoiceStarve_writes _ v
  | brakeEnd => exact guarded_memories _ rfl
  | carrierPeriodStart => exact guarded_memories _ (s.runClock_memories _)
  | pwmPulseEnd => exact guarded_memories _ (s.runClock_memories _)
  | deadTimeExpiry leg => exact guarded_memories _ (s.runClock_memories _)
  | staleTimerExpiry => exact guarded_memories _ (s.runClock_memories _)
  | cutoffInputActive => exact same (s.cutoffLevel_memories true)
  | cutoffInputInactive => exact same (s.cutoffLevel_memories false)
  | secondBoundary weak => exact guarded_memories _ (s.toSecond_memories weak)
  | minuteBoundary weak => exact guarded_memories _ (State.toSeconds_memories _ weak s)
  | frameSyncEdge => exact execFrameSyncEdge_writes _
  | rateCheckTimeout => exact guarded_memories _ (State.passTicks_memories _ _ s)
  | fetchBurstComplete => exact execFetchBurstComplete_writes _
  | configBurstComplete => exact execConfigBurstComplete_writes _
  | mountReadComplete => exact completeStore_writes _ hw State.mountArrives_memories
  | dataWriteComplete => exact completeStore_writes _ hw State.dataWritten_memories
  | pageWriteBurstComplete => exact completeStore_writes _ hw fun _ _ u => u.pageBurst_memories
  | copyReadComplete => exact completeStore_writes _ hw State.copyArrives_memories
  | copyWriteComplete => exact completeStore_writes _ hw State.copyWritten_memories
  | loadReadComplete => exact completeStore_writes _ hw State.loadArrives_memories
  | verifyReadComplete => exact completeStore_writes _ hw State.verifyArrives_memories
  | supplyFailing able => exact execSupplyFailing_writes able hw
  | consolePowerUp weak => exact execConsolePowerUp_writes _ weak
  | consoleReset => exact guarded_memories _ rfl
  | resetRelease => exact execResetRelease_writes _
  | batteryLoss => exact guarded_memories _ rfl
  | batteryDomainRestart => exact guarded_memories _ rfl
  | sramContentsLost => exact execSramContentsLost_writes s
  | _ => exact receive_writes _ _ _ _

/-- Settles O45: a step that carries out a command writes within the command's reach, an idle step writes nothing, and a
burst whose work has ended moves its bytes alone. -/
theorem onlyBurstsWriteSram : Obligations.OnlyBurstsWriteSram := by
  refine ⟨fun s t ⟨_, hw⟩ hstep => ?_, fun s op h => exec_completion_ended h⟩
  unfold step at hstep
  split at hstep
  · next hq =>
    exact writesWithin_memories _ (idle_memories s) t hstep
  · next c rest hq =>
    obtain ⟨hr, ha⟩ := exec_writes (s := { s with pending := rest }) c hw t hstep
    refine ⟨hr, fun a hne => ?_⟩
    rcases ha a hne with ⟨rfl, hl⟩ | ⟨hp, hg, hin⟩ | ⟨hp, able, w, rfl, hpw, hend⟩
    · exact .inl ⟨rest, hq, hl⟩
    · exact .inr (.inl ⟨hp, hg, hin⟩)
    · exact .inr (.inr ⟨hp, able, rest, w, hq, hpw, hend⟩)

end Sys2Proof.Machine
end

section
/-! SUPPORT. The range of a VOICE_START against R5 and R52, and the bytes that the channel of an accepted one can
fetch. -/

namespace Sys2Proof.Machine

theorem named_iff (b : Byte) : b = 0 ∨ b = 1 ↔ b.toNat ≤ 1 := by
  constructor
  · rintro (rfl | rfl) <;> decide
  · intro h
    rcases Nat.le_one_iff_eq_zero_or_eq_one.1 h with h | h
    · exact .inl (BitVec.eq_of_toNat_eq h)
    · exact .inr (BitVec.eq_of_toNat_eq h)

theorem loopInRange_iff (len : Nat) (loop : Option Quad) :
    loopInRange len loop = true ↔ ∀ l, loop = some l → l.toNat + 2 ≤ len := by
  cases loop <;> simp [loopInRange]

/-- The checks of R5 and R52 for parameters whose destination and format are named. -/
theorem startInRange_of_named {p : VoiceStart} {n : Nat} (hd : p.dest = 0 ∨ p.dest = 1)
    (hf : p.format = 0 ∨ p.format = 1) : startInRange p n = true ↔
      2 ≤ p.length.toNat ∧ p.length.toNat ≤ 16777215
      ∧ (∀ l, p.loop = some l → l.toNat + 2 ≤ p.length.toNat)
      ∧ (p.format.toNat = 1 → p.source.toNat % 2 = 0)
      ∧ p.volume.toNat ≤ 127 ∧ p.pan.toNat ≤ 127 ∧ p.sustain.toNat ≤ 32767 ∧ p.priority.toNat ≤ 7
      ∧ p.source.toNat + p.length.toNat * (p.format.toNat + 1) ≤ n := by
  have dest : ∃ d, destOf p.dest = some d := by rcases hd with hd | hd <;> exact ⟨_, congrArg destOf hd⟩
  obtain ⟨d, dest⟩ := dest
  unfold startInRange
  rcases hf with hf | hf
  · have format : formatOf p.format = some .pcm8 := congrArg formatOf hf
    rw [dest, format, hf]
    simp only [Bool.and_eq_true, decide_eq_true_eq, loopInRange_iff, and_assoc]
    simp [SampleFormat.bytes, peakLevel]
  · have format : formatOf p.format = some .pcm16 := congrArg formatOf hf
    rw [dest, format, hf]
    simp only [Bool.and_eq_true, decide_eq_true_eq, loopInRange_iff, and_assoc]
    simp [SampleFormat.bytes, peakLevel]

/-- A VOICE_START is in range exactly by the checks of R5 and R52. -/
theorem startInRange_iff (p : VoiceStart) (n : Nat) : startInRange p n = true ↔
    p.dest.toNat ≤ 1 ∧ p.format.toNat ≤ 1 ∧ 2 ≤ p.length.toNat ∧ p.length.toNat ≤ 16777215
    ∧ (∀ l, p.loop = some l → l.toNat + 2 ≤ p.length.toNat)
    ∧ (p.format.toNat = 1 → p.source.toNat % 2 = 0)
    ∧ p.volume.toNat ≤ 127 ∧ p.pan.toNat ≤ 127 ∧ p.sustain.toNat ≤ 32767 ∧ p.priority.toNat ≤ 7
    ∧ p.source.toNat + p.length.toNat * (p.format.toNat + 1) ≤ n := by
  constructor
  · intro h
    obtain ⟨hd, hf⟩ := startInRange_named h
    exact ⟨(named_iff _).1 hd, (named_iff _).1 hf, (startInRange_of_named hd hf).1 h⟩
  · rintro ⟨hd, hf, h⟩
    exact (startInRange_of_named ((named_iff _).2 hd) ((named_iff _).2 hf)).2 h

/-- The sample's bytes lie within the ROM (R52). -/
theorem startInRange_within {p : VoiceStart} {n : Nat} (h : startInRange p n = true) :
    p.source.toNat + p.length.toNat * (p.format.toNat + 1) ≤ n := by
  obtain ⟨-, -, -, -, -, -, -, -, -, -, within⟩ := (startInRange_iff p n).1 h
  exact within

/-- The loop starts two samples before the end at the latest (R5). -/
theorem startInRange_loop {p : VoiceStart} {n : Nat} (h : startInRange p n = true) {l : Quad}
    (hl : p.loop = some l) : l.toNat + 2 ≤ p.length.toNat := by
  obtain ⟨-, -, -, -, loop, -⟩ := (startInRange_iff p n).1 h
  exact loop l hl

theorem exec_voiceStart_range {s : State} {m : Master} (tag : Byte) (p : VoiceStart) (ht : s.takes m .running)
    (hr : startInRange p s.bl.cfg.romBytes = false) :
    exec (.voiceStart m tag p) s = .next (s.withReply m 0x01 tag .range []) := by
  rw [exec_voiceStart tag p ht, jobVoiceStart, State.reserveSlot_bl, if_neg (by simp [hr])]
  exact congrArg Host.Outcome.next (reserve_refuse s ⟨m, tag, 0x01⟩ .range)

/-- A loop pass ends where the sample does (R41, R52). -/
theorem loop_pass_end {source l len size : Nat} (h : l ≤ len) :
    source + l * size + (len - l) * size = source + len * size := by
  rw [Nat.add_assoc, ← Nat.add_mul, Nat.add_sub_cancel' h]

/-- Settles O16: the check is the list of R5 and R52, and its last item bounds each byte that the channel fetches. -/
theorem startRange : Obligations.StartRange := by
  refine ⟨startInRange_iff, fun m tag p s => exec_voiceStart_range tag p, fun p n busy discard h => ?_,
    fun p hf hs => ⟨fun hl => ?_, fun hl => ?_⟩⟩
  · refine ⟨startInRange_within h, fun l a hl ha => ?_⟩
    have start : p.source.toNat + l.toNat * (p.format.toNat + 1) = a := by
      simpa [setUpChannel, hl] using ha
    have early := startInRange_loop h hl
    refine ⟨start ▸ Nat.le_add_right _ _, ?_⟩
    calc a + (p.length.toNat - l.toNat) * (p.format.toNat + 1)
        = p.source.toNat + p.length.toNat * (p.format.toNat + 1) := by rw [← start, loop_pass_end (by omega)]
      _ ≤ n := startInRange_within h
  · refine Bool.eq_iff_iff.2 ?_
    rw [startInRange_iff, startInRange_iff, hf, hs, hl]
    simp
  · refine Bool.eq_false_iff.2 fun h => ?_
    have within := startInRange_within h
    rw [hf, hs, hl] at within
    exact absurd within (by decide)

end Sys2Proof.Machine
end

section
/-! SUPPORT. The grant decision: the claims, the fetch channel of lowest fill and number, the choice among the
claimants, and what each grant does (R41, R45, R47 to R49). -/

namespace Sys2Proof.Machine

/-! ## The claims -/

/-- R45's conditions of a channel that is ready. -/
theorem ready_iff (c : Channel) : c.ready = true ↔ (c.state = .priming ∨ c.state = .streaming) ∧ c.inFlight = false
    ∧ c.fifo.length ≤ 96 ∧ 0 < c.toEnd := by
  simp only [Channel.ready, Bool.and_eq_true, Bool.or_eq_true, Bool.not_eq_true', beq_iff_eq, decide_eq_true_eq,
    and_assoc]
  rfl

theorem urgent_iff (c : Channel) : c.urgent = true ↔ c.ready = true ∧ c.fifo.length < 48 := by
  simp only [Channel.urgent, Bool.and_eq_true, decide_eq_true_eq]
  rfl

theorem not_urgent_of_not_ready {c : Channel} (h : c.ready = false) : c.urgent = false := by simp [Channel.urgent, h]

theorem claims_iff (b : Boot) : b.claims = true ↔ b.phase = .loading ∧ b.granted < 2 := by simp [Boot.claims]

theorem guardActs_iff (s : State) : s.guardActs = true ↔ s.pma.runCount = 7 ∧ s.ss.ops ≠ [] := by
  simp [State.guardActs, guardRun]

/-! ## The lowest fill (R48) -/

theorem lowestFill_mem {s : State} {l : List (Fin 16)} {w : Fin 16} (h : s.lowestFill l = some w) : w ∈ l := by
  induction l with
  | nil => cases h
  | cons x rest ih =>
    unfold State.lowestFill at h
    split at h
    · exact Option.some.inj h ▸ List.mem_cons_self
    · next u hu =>
      split at h
      · exact Option.some.inj h ▸ List.mem_cons_self
      · exact List.mem_cons_of_mem _ (ih (hu.trans h))

/-- A channel before another: of lower fill, or of equal fill and no higher number (R48). -/
def State.fillBefore (s : State) (v w : Fin 16) : Prop :=
  s.channels[v].fifo.length < s.channels[w].fifo.length
    ∨ s.channels[v].fifo.length = s.channels[w].fifo.length ∧ v ≤ w

/-- The channel found of a list in ascending order is the one before all others (R48). -/
theorem lowestFill_eq {s : State} {l : List (Fin 16)} {v : Fin 16} (hl : l.Pairwise (· < ·)) (hv : v ∈ l)
    (hb : ∀ w ∈ l, s.fillBefore v w) : s.lowestFill l = some v := by
  induction l with
  | nil => cases hv
  | cons x rest ih =>
    obtain ⟨above, sorted⟩ := List.pairwise_cons.1 hl
    rcases List.mem_cons.1 hv with rfl | hv
    · unfold State.lowestFill
      split
      · rfl
      · next w hw =>
        refine if_pos ?_
        rcases hb w (List.mem_cons_of_mem _ (lowestFill_mem hw)) with less | ⟨same, _⟩
        · exact Nat.le_of_lt less
        · exact Nat.le_of_eq same
    · have found := ih sorted hv fun w hw => hb w (List.mem_cons_of_mem _ hw)
      have less : s.channels[v].fifo.length < s.channels[x].fifo.length :=
        (hb x List.mem_cons_self).resolve_right fun ⟨_, hle⟩ => absurd (above v hv) (Fin.not_lt.2 hle)
      unfold State.lowestFill
      rw [found]
      exact if_neg (Nat.not_le.2 less)

/-- Of the channels that a test picks. -/
theorem lowestFill_filter {s : State} {pick : Fin 16 → Bool} {v : Fin 16} (hv : pick v = true)
    (hb : ∀ w, pick w = true → s.fillBefore v w) : s.lowestFill (voiceNumbers.filter pick) = some v := by
  refine lowestFill_eq ((List.pairwise_lt_finRange 16).filter pick) (List.mem_filter.2 ⟨mem_voiceNumbers v, hv⟩) ?_
  exact fun w hw => hb w (List.mem_filter.1 hw).2

theorem lowestFill_filter_none {s : State} {pick : Fin 16 → Bool} (h : ∀ v, pick v = false) :
    s.lowestFill (voiceNumbers.filter pick) = none := by
  rw [List.filter_eq_nil_iff.2 fun v _ => by rw [h v]; exact Bool.false_ne_true]
  rfl

/-! ## The choice (R48, R49) -/

theorem grantChoice_guard {s : State} (h : s.guardActs = true) : s.grantChoice = some .store := if_pos h

theorem grantChoice_boot {s : State} (hg : ¬s.guardActs = true) (hb : s.bl.claims = true) :
    s.grantChoice = some .boot := (if_neg hg).trans (if_pos hb)

/-- Where neither the guard nor the boot loader comes first, an urgent channel does. -/
theorem grantChoice_urgent {s : State} {v : Fin 16} (hg : ¬s.guardActs = true) (hb : ¬s.bl.claims = true)
    (hv : s.channels[v].urgent = true) (hw : ∀ w : Fin 16, s.channels[w].urgent = true → s.fillBefore v w) :
    s.grantChoice = some (.fetch v) := by
  have found := lowestFill_filter (s := s) (pick := fun v => s.channels[v].urgent) hv hw
  unfold State.grantChoice
  rw [if_neg hg, if_neg hb, found]

/-- Without an urgent channel the store engine's operations come before the ready channels. -/
theorem grantChoice_calm {s : State} (hg : ¬s.guardActs = true) (hb : ¬s.bl.claims = true)
    (hu : ∀ v : Fin 16, s.channels[v].urgent = false) : s.grantChoice = if !s.ss.ops.isEmpty then some .store
      else (s.lowestFill (voiceNumbers.filter fun v => s.channels[v].ready)).map .fetch := by
  have none' := lowestFill_filter_none (s := s) (pick := fun v => s.channels[v].urgent) hu
  unfold State.grantChoice
  rw [if_neg hg, if_neg hb, none']

/-! ## The grants -/

/-- The state after a grant to a claimant. -/
def State.grantTo (s : State) : Claimant → State
  | .boot => s.grantBoot
  | .store => s.grantStore
  | .fetch v => s.grantFetch v

theorem arbitrate_some {s : State} {c : Claimant} (hp : s.powered = true) (hi : s.pma.inFlight = none)
    (hc : s.grantChoice = some c) : s.arbitrate = s.grantTo c := by
  have decides : (s.powered && s.pma.inFlight.isNone) = true := by rw [hp, hi]; rfl
  rw [State.arbitrate, if_pos decides, hc]
  cases c <;> rfl

theorem arbitrate_none {s : State} (hc : s.grantChoice = none) : s.arbitrate = s := by
  rw [State.arbitrate, hc]
  exact ite_self s

theorem grantStore_cons {s : State} {op : StoreOp} {rest : List StoreOp} (h : s.ss.ops = op :: rest) :
    s.grantStore = { s with
      pma := { inFlight := some (.store op false), runCount := 0 }, ss := { s.ss with ops := rest } } := by
  rw [State.grantStore, h]

/-- A channel at a grant: within the sample it moves on; at its end it stops, or wraps to its loop (R41). -/
theorem granted_eq (c : Channel) (pass : Nat) : c.granted pass =
    if 32 < c.toEnd then
      { c with next := c.next + min 32 c.toEnd, toEnd := c.toEnd - min 32 c.toEnd, inFlight := true }
    else match c.loopAddr with
      | none => { c with next := c.next + min 32 c.toEnd, toEnd := 0, inFlight := true }
      | some a => { c with next := a, toEnd := pass, inFlight := true } := by
  unfold Channel.granted Channel.burstLength burstBytes
  by_cases h : 32 < c.toEnd
  · exact (if_neg (by omega)).trans (if_pos h).symm
  · refine (if_pos (by omega)).trans (Eq.trans ?_ (if_neg h).symm)
    cases c.loopAddr <;> rfl

/-- The count of fetch bursts that have passed the store engine (R49). -/
theorem fetchRun_eq (s : State) : s.fetchRun = if s.ss.ops = [] then 0 else min 7 (s.pma.runCount + 1) := by
  simp only [State.fetchRun, List.isEmpty_iff, guardRun]

/-- Settles O33: the guard and the ranks decide by the claims, and each grant does what its rule says. -/
theorem grantOrder : Obligations.GrantOrder := by
  refine ⟨fun c => ⟨ready_iff c, urgent_iff c⟩, fun s hp hi => ?_⟩
  intro boot before fetch
  have unclaimed : ¬boot → ¬s.bl.claims = true := fun hb => mt (claims_iff s.bl).1 hb
  have unguarded : s.pma.runCount ≠ 7 ∨ s.ss.ops = [] → ¬s.guardActs = true := fun h hg => by
    obtain ⟨full, waiting⟩ := (guardActs_iff s).1 hg
    exact h.elim (· full) waiting
  have toFetch : ∀ v, s.grantFetch v = fetch v := by
    intro v
    unfold State.grantFetch
    dsimp only
    rw [fetchRun_eq, granted_eq]
    rfl
  refine ⟨fun op rest hops hb hs => ?_, fun hb hs => ?_, fun v hb hs hv hw => ?_, fun v hb hops hu hv hw => ?_,
    fun hb hops hr => ?_⟩
  · have chosen : s.grantChoice = some .store := by
      by_cases hg : s.guardActs = true
      · exact grantChoice_guard hg
      · have calm : ∀ v : Fin 16, s.channels[v].urgent = false :=
          hs.resolve_left fun full => hg ((guardActs_iff s).2 ⟨full, by rw [hops]; exact List.cons_ne_nil _ _⟩)
        rw [grantChoice_calm hg (unclaimed hb) calm, hops]
        rfl
    exact (arbitrate_some hp hi chosen).trans (grantStore_cons hops)
  · exact arbitrate_some hp hi (grantChoice_boot (unguarded hs) ((claims_iff s.bl).2 hb))
  · exact (arbitrate_some hp hi (grantChoice_urgent (unguarded hs) (unclaimed hb) hv hw)).trans (toFetch v)
  · have chosen : s.grantChoice = some (.fetch v) := by
      rw [grantChoice_calm (unguarded (.inr hops)) (unclaimed hb) hu, hops,
        lowestFill_filter (pick := fun v => s.channels[v].ready) hv hw]
      rfl
    exact (arbitrate_some hp hi chosen).trans (toFetch v)
  · have chosen : s.grantChoice = none := by
      rw [grantChoice_calm (unguarded (.inr hops)) (unclaimed hb) fun v => not_urgent_of_not_ready (hr v), hops,
        lowestFill_filter_none (pick := fun v => s.channels[v].ready) hr]
      rfl
    exact arbitrate_none chosen

end Sys2Proof.Machine
end

section
/-! SUPPORT. SAVE_DATA: the check of its bytes, the region bursts it places, and their completion (R50, R96, R116). -/

namespace Sys2Proof.Machine

/-! ## The CRC-16 (R96) -/

theorem crc16Shift_eq (r : Word) :
    crc16Shift r = if r.getLsbD 15 then (r <<< 1) ^^^ 0x1021 else r <<< 1 := by
  rw [crc16Shift, BitVec.msb_eq_getLsbD_last]
  rfl

/-- A byte enters the upper half of the register, and eight shifts follow (R96). -/
theorem crc16Byte_eq (r : Word) (b : Byte) : crc16Byte r b = (List.range 8).foldl
    (fun x _ => if x.getLsbD 15 then (x <<< 1) ^^^ 0x1021 else x <<< 1) (r ^^^ (b.setWidth 16 <<< 8)) := by
  have upper : b ++ 0x00#8 = b.setWidth 16 <<< 8 := by
    revert b
    decide
  rw [crc16Byte, upper]
  simp only [← crc16Shift_eq]
  rfl

theorem crc16From_snoc (r : Word) (l : List Byte) (b : Byte) :
    crc16From r (l ++ [b]) = crc16Byte (crc16From r l) b := List.foldl_append

/-- R96's worked value. -/
theorem crc16From_check :
    crc16From 0xFFFF [0x31, 0x32, 0x33, 0x34, 0x35, 0x36, 0x37, 0x38, 0x39] = 0x29B1 := by decide +kernel

/-! ## The bursts of a run of bytes -/

theorem burstOf_length (l : List Byte) (i : Nat) : (burstOf l i).length = 32 := by
  simp only [burstOf, burstBytes, List.length_append, List.length_replicate, List.length_take]
  omega

/-- A byte of a burst is the byte at its place in the run, and 0 past the run's end (R50, R116). -/
theorem burstOf_get (l : List Byte) (i k : Nat) (hk : k < 32) :
    (burstOf l i)[k]? = some ((l[32 * i + k]?).getD 0) := by
  have part : ((l.drop (32 * i)).take 32).length = min 32 (l.length - 32 * i) := by simp
  show ((l.drop (32 * i)).take 32 ++ List.replicate (32 - ((l.drop (32 * i)).take 32).length) 0)[k]? = _
  by_cases h : 32 * i + k < l.length
  · rw [List.getElem?_append_left (by omega), List.getElem?_take_of_lt hk, List.getElem?_drop, List.getElem?_eq_getElem h]
    rfl
  · rw [List.getElem?_append_right (by omega), List.getElem?_replicate, if_pos (by omega),
      List.getElem?_eq_none (by omega)]
    rfl

/-- The place of a region in its reservation (R116). -/
theorem regionAddr_eq {chain : List Nat} {j b : Nat} (h : chain[j / 8]? = some b) :
    regionAddr chain j = 256 * b + 32 * (j % 8) := by
  rw [regionAddr, h, Option.getD_some, regionBytes, Nat.mul_comm b, Nat.mul_comm (j % 8)]

/-! ## The request -/

theorem exec_saveData {s : State} {m : Master} (tag : Byte) {bytes : List Byte} (h : s.takes m .store)
    (hl : 1 ≤ bytes.length) (hu : bytes.length ≤ 64) :
    exec (.saveData m tag bytes) s = .next (jobSaveData ⟨m, tag, 0x33⟩ bytes (s.reserveSlot m)) :=
  receive_takes h (by simp [requestSized, hl, hu])

theorem jobSaveData_none {s : State} {a : Ask} (bytes : List Byte) (h : s.ss.txn a.m = none) :
    jobSaveData a bytes (s.reserveSlot a.m) = s.withReply a.m a.kind a.tag .noTransaction [] := by
  unfold jobSaveData
  rw [State.reserveSlot_ss, h]
  exact reserve_refuse s a .noTransaction

theorem jobSaveData_range {s : State} {a : Ask} {bytes : List Byte} {x : Txn} (h : s.ss.txn a.m = some x)
    (hl : x.length < x.cursor + bytes.length) :
    jobSaveData a bytes (s.reserveSlot a.m) = s.withReply a.m a.kind a.tag .range [] := by
  unfold jobSaveData
  rw [State.reserveSlot_ss, h]
  exact (if_pos hl).trans (reserve_refuse s a .range)

/-- An accepted SAVE_DATA: the transaction takes the bytes, and a burst is placed for each region touched (R116). -/
theorem jobSaveData_accepted {s : State} {a : Ask} {bytes : List Byte} {x : Txn} (h : s.ss.txn a.m = some x)
    (hl : x.cursor + bytes.length ≤ x.length) : jobSaveData a bytes (s.reserveSlot a.m) =
      (((s.reserveSlot a.m).setStore (s.ss.setTxn a.m (some (x.append bytes)))).pushOps
        (x.dataOps a.m a.tag bytes)).arbitrate := by
  unfold jobSaveData
  rw [State.reserveSlot_ss, h]
  exact if_neg (Nat.not_lt.2 hl)

/-- The completion of a data burst: its bytes are in SRAM, and the last of a request brings its reply (R116). -/
theorem exec_dataWriteComplete {s : State} {op : StoreOp} (h : s.storeInFlight op false) {m : Master} {tag : Byte}
    {n : Option Nat} (ho : op.owner = .data m tag n) : exec .dataWriteComplete s =
      .next (State.arbitrate (State.dataWritten op (s.readBurst op) (s.burstDone op))) :=
  completeStore_inFlight State.dataWritten h (by rw [ho]; rfl)

theorem dataWritten_within {s : State} {op : StoreOp} {m : Master} {tag : Byte} (bytes : List Byte)
    (h : op.owner = .data m tag none) : State.dataWritten op bytes s = s := by
  rw [State.dataWritten, h]

theorem dataWritten_last {s : State} {op : StoreOp} {m : Master} {tag : Byte} {n : Nat} (bytes : List Byte)
    (h : op.owner = .data m tag (some n)) : State.dataWritten op bytes s =
      s.reply m { kind := 0x33, tag := tag, code := .ok, result := u16 n } := by
  rw [State.dataWritten, h]
  rfl

/-- Settles O49: the regions and the check, then the request by its transaction, then the completion by the burst's
place in its request. -/
theorem saveDataWrites : Obligations.SaveDataWrites := by
  refine ⟨fun chain j b => regionAddr_eq, fun l i => ⟨burstOf_length l i, burstOf_get l i⟩,
    fun r l b => ⟨rfl, (crc16From_snoc r l b).trans (crc16Byte_eq _ b)⟩, crc16From_check,
    fun m tag bytes s ht hl hu => ⟨fun hx => ?_, fun x hx => ⟨fun hr => ?_, fun hr => ?_⟩⟩,
    fun s op m tag h => ⟨fun ho => ?_, fun n ho => ?_⟩⟩
  · rw [exec_saveData tag ht hl hu, jobSaveData_none (a := ⟨m, tag, 0x33⟩) bytes hx]
  · rw [exec_saveData tag ht hl hu, jobSaveData_range (a := ⟨m, tag, 0x33⟩) hx hr]
  · rw [exec_saveData tag ht hl hu, jobSaveData_accepted (a := ⟨m, tag, 0x33⟩) hx hr]
    rfl
  · rw [exec_dataWriteComplete h ho, dataWritten_within _ ho]
  · rw [exec_dataWriteComplete h ho, dataWritten_last _ ho]

end Sys2Proof.Machine
end

section
/-! SUPPORT. The end of work on saves: the requests it owes are answered NO_TRANSACTION in their order, its waiting
bursts are withdrawn and one in flight is marked (R118, R125, R130; log entry 15). SAVE_COMMIT and SAVE_ABORT. -/

namespace Sys2Proof.Machine

/-! ## Several replies one after another -/

/-- Replies placed one after another, each in a slot that was reserved for it (R163, R168). -/
def Queues.placeAll (q : Queues) (rs : List Reply) : Queues :=
  { q with
    reserved := q.reserved - rs.length
    replies := q.replies ++ rs.mapIdx fun i r => (q.placed + i, r)
    placed := q.placed + rs.length }

theorem Queues.placeAll_cons (q : Queues) (r : Reply) (rs : List Reply) :
    q.placeAll (r :: rs) = (q.place r).placeAll rs := by
  simp [Queues.placeAll, Queues.place, List.mapIdx_cons, Nat.sub_sub, Nat.add_comm, Nat.add_left_comm]

@[simp] theorem Queues.placeAll_replies (q : Queues) (rs : List Reply) :
    (q.placeAll rs).replies.map (·.2) = q.replies.map (·.2) ++ rs := by
  have seconds : (rs.mapIdx fun i r => (q.placed + i, r)).map (·.2) = rs := by
    refine List.ext_getElem? fun i => ?_
    simp only [List.getElem?_map, List.getElem?_mapIdx]
    cases rs[i]? <;> rfl
  rw [Queues.placeAll, List.map_append, seconds]

theorem answerNone_eq (tags : List Byte) (m : Master) (k : Byte) (s : State) : s.answerNone m k tags =
    s.setQueues m ((s.queues m).placeAll (tags.map (noTransaction k))) := by
  induction tags generalizing s with
  | nil =>
    have nothing : (s.queues m).placeAll [] = s.queues m := by simp [Queues.placeAll]
    exact (State.setQueues_self s m).symm.trans (congrArg _ nothing.symm)
  | cons tag rest ih =>
    have first : s.refuse ⟨m, tag, k⟩ .noTransaction = s.setQueues m ((s.queues m).place (noTransaction k tag)) := rfl
    show (s.refuse ⟨m, tag, k⟩ .noTransaction).answerNone m k rest = _
    rw [ih, first, State.setQueues_queues, State.setQueues_setQueues, List.map_cons, Queues.placeAll_cons]

@[simp] theorem withReply_replies (s : State) (m : Master) (k tag : Byte) (c : Code) (r : List Byte) :
    ((s.withReply m k tag c r).queues m).replies.map (·.2) =
      (s.queues m).replies.map (·.2) ++ [{ kind := k, tag := tag, code := c, result := r }] := by
  simp [State.withReply]

/-! ## The end of work -/

/-- Work of a master has ended: its unanswered requests have NO_TRANSACTION, the store stands as given, and a burst of
it in flight is marked. -/
def State.endWork (s : State) (m : Master) (k : Byte) (tags : List Byte) (pick : StoreOp → Bool) (ss : Store) : State :=
  { s.setQueues m ((s.queues m).placeAll (tags.map (noTransaction k))) with ss := ss, pma := s.pma.orphan pick }

section
variable (s : State) (m : Master) (k : Byte) (tags : List Byte) (pick : StoreOp → Bool) (ss : Store)

@[simp] theorem endWork_ss : (s.endWork m k tags pick ss).ss = ss := rfl

theorem orphan_eq (p : Arbiter) : p.orphan pick = { p with inFlight := match p.inFlight with
    | some (.store op d) => some (.store op (d || pick op))
    | burst => burst } := by
  rcases p with ⟨_ | ⟨_ | _ | _⟩, n⟩ <;> rfl

@[simp] theorem endWork_replies : ((s.endWork m k tags pick ss).queues m).replies.map (·.2) =
    (s.queues m).replies.map (·.2) ++ tags.map (noTransaction k) := by
  cases m <;> exact Queues.placeAll_replies _ _

theorem endWork_frame : s.endWork m k tags pick ss = { s with
    ss := (s.endWork m k tags pick ss).ss
    pma := (s.endWork m k tags pick ss).pma
    game := (s.endWork m k tags pick ss).game
    sys := (s.endWork m k tags pick ss).sys } := by
  cases m <;> rfl

/-- The request that ends the work holds a reply slot of its own, and its reply is the last (log entry 15). -/
theorem reserve_endWork_answer (a : Ask) (hm : a.m = m) (c : Code) (r : List Byte) :
    ((s.reserveSlot m).endWork m k tags pick ss).answer a c r =
      (s.endWork m k tags pick ss).withReply m a.kind a.tag c r := by
  subst hm
  rcases a with ⟨m, tag, kind⟩
  cases m <;> simp [State.endWork, State.answer, State.reply, State.withReply, State.reserveSlot, State.setQueues,
    State.queues, Queues.placeAll, Queues.place] <;> omega

end

/-! ## The end of a transaction -/

/-- The store once a master's transaction has ended: none stands, its waiting bursts are withdrawn (R118). -/
def Store.withoutTxn (ss : Store) (m : Master) : Store :=
  { ss.setTxn m none with ops := ss.ops.filter fun op => !isDataOf m op }

theorem endTxn_eq (s : State) (m : Master) : s.endTxn m =
    s.endWork m 0x33 (s.unfinishedData m) (isDataOf m) (s.ss.withoutTxn m) := by
  unfold State.endTxn
  rw [answerNone_eq]
  cases m <;> rfl

@[simp] theorem reserveSlot_unfinishedData (s : State) (m k : Master) :
    (s.reserveSlot m).unfinishedData k = s.unfinishedData k := by
  simp [State.unfinishedData]

theorem reserve_endTxn_answer (s : State) (a : Ask) (c : Code) (r : List Byte) :
    ((s.reserveSlot a.m).endTxn a.m).answer a c r = (s.endTxn a.m).withReply a.m a.kind a.tag c r := by
  rw [endTxn_eq, endTxn_eq, reserveSlot_unfinishedData, State.reserveSlot_ss, reserve_endWork_answer _ _ _ _ _ _ a rfl]

theorem isDataOf_iff (m : Master) (op : StoreOp) : isDataOf m op = true ↔ ∃ tag r, op.owner = .data m tag r := by
  unfold isDataOf
  split
  next k tag r ho => rw [ho]; simp
  next ho => simpa using ho m

theorem unfinishedData_eq (m : Master) (s : State) : s.unfinishedData m =
    (match s.pma.inFlight with
      | some (.store op false) => (lastDataTag m op).toList
      | _ => []) ++ s.ss.ops.filterMap (lastDataTag m) := by
  have inFlight : s.pma.storeOp.toList.filterMap (lastDataTag m) = match s.pma.inFlight with
      | some (.store op false) => (lastDataTag m op).toList
      | _ => [] := by
    rcases s.pma with ⟨_ | ⟨_ | ⟨_, _ | _⟩ | _⟩, _⟩ <;> rfl
  rw [State.unfinishedData, List.filterMap_append, inFlight]

/-! ## SAVE_COMMIT and SAVE_ABORT -/

theorem exec_saveCommit {s : State} {m : Master} (tag : Byte) (h : s.takes m .store) :
    exec (.saveCommit m tag) s = .next (jobSaveCommit ⟨m, tag, 0x34⟩ (s.reserveSlot m)) := receive_takes h rfl

theorem exec_saveAbort {s : State} {m : Master} (tag : Byte) (h : s.takes m .store) :
    exec (.saveAbort m tag) s = .next (jobSaveAbort ⟨m, tag, 0x35⟩ (s.reserveSlot m)) := receive_takes h rfl

section
variable {s : State} {a : Ask}

theorem jobSaveCommit_none (h : s.ss.txn a.m = none) :
    jobSaveCommit a (s.reserveSlot a.m) = s.withReply a.m a.kind a.tag .noTransaction [] := by
  unfold jobSaveCommit
  rw [State.reserveSlot_ss, h]
  exact reserve_refuse s a .noTransaction

theorem jobSaveAbort_none (h : s.ss.txn a.m = none) :
    jobSaveAbort a (s.reserveSlot a.m) = s.withReply a.m a.kind a.tag .noTransaction [] := by
  unfold jobSaveAbort
  rw [State.reserveSlot_ss, h]
  exact reserve_refuse s a .noTransaction

variable {x : Txn} (h : s.ss.txn a.m = some x)
include h

theorem jobSaveCommit_opened (hs : x.state = .opened) :
    jobSaveCommit a (s.reserveSlot a.m) = s.withReply a.m a.kind a.tag .incomplete [] := by
  unfold jobSaveCommit
  rw [State.reserveSlot_ss, h]
  dsimp only
  rw [hs]
  exact reserve_refuse s a .incomplete

theorem jobSaveCommit_committing (hs : x.state = .committing) :
    jobSaveCommit a (s.reserveSlot a.m) = s.withReply a.m a.kind a.tag .busy [] := by
  unfold jobSaveCommit
  rw [State.reserveSlot_ss, h]
  dsimp only
  rw [hs]
  exact reserve_refuse s a .busy

/-- A full transaction commits when the commit queue has a place (R117). -/
theorem jobSaveCommit_filled (hs : x.state = .filled) : jobSaveCommit a (s.reserveSlot a.m) =
    if s.ss.queueFull = true then s.withReply a.m a.kind a.tag .busy []
    else ((((s.reserveSlot a.m).setStore (s.ss.setTxn a.m (some { x with state := .committing }))).appendEntry
      { kind := .txn, slot := x.slot, requester := a.m, tag := a.tag })).arbitrate := by
  unfold jobSaveCommit
  rw [State.reserveSlot_ss, h]
  dsimp only
  rw [hs]
  exact ite_congr rfl (fun _ => reserve_refuse s a .busy) fun _ => rfl

/-- SAVE_ABORT ends a transaction unless it is COMMITTING (R118). -/
theorem jobSaveAbort_some : jobSaveAbort a (s.reserveSlot a.m) =
    if x.state = .committing then s.withReply a.m a.kind a.tag .busy []
    else (s.endTxn a.m).withReply a.m a.kind a.tag .ok [] := by
  unfold jobSaveAbort
  rw [State.reserveSlot_ss, h]
  exact ite_congr rfl (fun _ => reserve_refuse s a .busy) fun _ => reserve_endTxn_answer s a .ok []

end

/-- Settles O50: both requests by the transaction's state, and the end of a transaction as the end of work. -/
theorem commitOrAbort : Obligations.CommitOrAbort := by
  refine ⟨fun m tag s ht => ⟨fun hx => ⟨?_, ?_⟩, fun x hx => ⟨fun hs => ?_, ?_, fun hs hq => ?_, fun hs => ?_⟩⟩,
    fun m tag s x ht hx hs => ?_, isDataOf_iff, fun m s => unfinishedData_eq m s⟩
  · rw [exec_saveCommit tag ht, jobSaveCommit_none (a := ⟨m, tag, 0x34⟩) hx]
  · rw [exec_saveAbort tag ht, jobSaveAbort_none (a := ⟨m, tag, 0x35⟩) hx]
  · rw [exec_saveCommit tag ht, jobSaveCommit_opened (a := ⟨m, tag, 0x34⟩) hx hs]
  · rintro (hs | ⟨hs, hq⟩)
    · rw [exec_saveCommit tag ht, jobSaveCommit_committing (a := ⟨m, tag, 0x34⟩) hx hs]
    · rw [exec_saveCommit tag ht, jobSaveCommit_filled (a := ⟨m, tag, 0x34⟩) hx hs, if_pos hq]
  · rw [exec_saveCommit tag ht, jobSaveCommit_filled (a := ⟨m, tag, 0x34⟩) hx hs, if_neg (by simp [hq])]
    rfl
  · rw [exec_saveAbort tag ht, jobSaveAbort_some (a := ⟨m, tag, 0x35⟩) hx, if_pos hs]
  · refine ⟨(s.endTxn m).withReply m 0x35 tag .ok [], ?_, ?_, ?_, ?_, ?_⟩
    · rw [exec_saveAbort tag ht, jobSaveAbort_some (a := ⟨m, tag, 0x35⟩) hx, if_neg hs]
    · rw [endTxn_eq, State.withReply_ss, endWork_ss, Store.withoutTxn]
    · rw [withReply_replies, endTxn_eq, endWork_replies]
    · rw [endTxn_eq, State.withReply_pma]
      exact orphan_eq _ _
    · rw [endTxn_eq, endWork_frame]
      cases m <;> rfl

end Sys2Proof.Machine
end

section
/-! SUPPORT. Overtaking, SLOT_ERASE and SLOT_LOCK; the lock that requests see, the claim on a slot and the places of the
commit queue (R114, R119, R123 to R125). -/

namespace Sys2Proof.Machine

/-! ## The lock that requests see (R114) -/

/-- An entry locks or unlocks a slot. -/
def Entry.locks (e : Entry) (slot : Fin 32) (on : Bool) : Prop := e.kind = .lock on ∧ e.slot = slot

theorem queuedLock_one (slot : Fin 32) (e : Entry) (on : Bool) : queuedLock slot [e] = some on ↔ e.locks slot on := by
  rcases e with ⟨kind, at', m, tag⟩
  cases kind <;> simp [queuedLock, Entry.locks, and_comm]

theorem queuedLock_cons (slot : Fin 32) (e : Entry) (l : List Entry) :
    queuedLock slot (e :: l) = (queuedLock slot l).or (queuedLock slot [e]) := by
  show (match queuedLock slot l with
    | some on => some on
    | none => queuedLock slot [e]) = _
  cases queuedLock slot l <;> rfl

/-- The newer entries decide before the older ones. -/
theorem queuedLock_append (slot : Fin 32) (old new : List Entry) :
    queuedLock slot (old ++ new) = (queuedLock slot new).or (queuedLock slot old) := by
  induction old with
  | nil => exact (Option.or_none).symm
  | cons e rest ih => rw [List.cons_append, queuedLock_cons, ih, queuedLock_cons slot e rest, Option.or_assoc]

theorem queuedLock_none {slot : Fin 32} {l : List Entry} (h : ∀ x ∈ l, ∀ on, ¬x.locks slot on) :
    queuedLock slot l = none := by
  induction l with
  | nil => rfl
  | cons e rest ih =>
    have alone : queuedLock slot [e] = none :=
      Option.eq_none_iff_forall_ne_some.2 fun on ho => h e (by simp) on ((queuedLock_one slot e on).1 ho)
    rw [queuedLock_cons, ih fun x hx => h x (by simp [hx]), alone]
    rfl

theorem queuedLock_newest {slot : Fin 32} {old new : List Entry} {e : Entry} {on : Bool} (he : e.locks slot on)
    (hn : ∀ x ∈ new, ∀ b, ¬x.locks slot b) : queuedLock slot (old ++ e :: new) = some on := by
  rw [queuedLock_append, queuedLock_cons, queuedLock_none hn, (queuedLock_one slot e on).2 he]
  rfl

theorem flyingLock_iff (slot : Fin 32) (p : Option PageWrite) (on : Bool) :
    flyingLock slot p = some on ↔ ∃ w e, p = some w ∧ w.entry = some e ∧ e.locks slot on := by
  rcases p with _ | w
  · simp [flyingLock]
  · rcases he : w.entry with _ | e
    · simp [flyingLock, he]
    · simp [flyingLock, he, queuedLock_one]

theorem lockSeen_eq (ss : Store) (slot : Fin 32) : ss.lockSeen slot =
    (((queuedLock slot ss.commits).or (flyingLock slot ss.pageWrite)).getD ss.dir.slots[slot].locked) := by
  unfold Store.lockSeen
  cases queuedLock slot ss.commits with
  | some on => rfl
  | none => cases flyingLock slot ss.pageWrite <;> rfl

/-! ## Claims and places (R114, R119) -/

theorem txnNames_iff (slot : Fin 32) (x : Option Txn) : txnNames slot x = true ↔ ∃ t, x = some t ∧ t.slot = slot := by
  cases x <;> simp [txnNames]

theorem txnNamesOpen_iff (slot : Fin 32) (x : Option Txn) :
    txnNamesOpen slot x = true ↔ ∃ t, x = some t ∧ t.slot = slot ∧ t.state ≠ .committing := by
  cases x <;> simp [txnNamesOpen]

theorem copyClaims_iff (slot : Fin 32) (x : Option Copy) :
    copyClaims slot x = true ↔ ∃ c, x = some c ∧ c.destination = slot := by
  cases x <;> simp [copyClaims]

theorem claimed_iff (ss : Store) (slot : Fin 32) : ss.claimed slot = true ↔
    (∃ m t, ss.txn m = some t ∧ t.slot = slot) ∨ ∃ c, ss.copy = some c ∧ c.destination = slot := by
  have either : (∃ m t, ss.txn m = some t ∧ t.slot = slot) ↔
      (∃ t, ss.txnGame = some t ∧ t.slot = slot) ∨ ∃ t, ss.txnSystem = some t ∧ t.slot = slot :=
    ⟨fun ⟨m, t, h⟩ => match m with
      | .game => .inl ⟨t, h⟩
      | .system => .inr ⟨t, h⟩, fun h => h.elim (fun ⟨t, h⟩ => ⟨.game, t, h⟩) fun ⟨t, h⟩ => ⟨.system, t, h⟩⟩
  rw [Store.claimed, Bool.or_eq_true, Bool.or_eq_true, txnNames_iff, txnNames_iff, copyClaims_iff, either]

/-- A copy holds a place until it queues its entry (R119). -/
theorem placesTaken_eq (ss : Store) (n : Nat) (hn : (∃ c, ss.copy = some c ∧ c.queued = false) → n = 1)
    (h0 : (¬∃ c, ss.copy = some c ∧ c.queued = false) → n = 0) : ss.placesTaken = ss.commits.length + n := by
  unfold Store.placesTaken
  rcases hc : ss.copy with _ | c
  · rw [h0 (by simp [hc])]
  · rcases hq : c.queued with _ | _
    · rw [hn ⟨c, hc, hq⟩]
      simp [hq]
    · rw [h0 (by simp [hc, hq])]
      simp [hq]

theorem ownClaim_iff (ss : Store) (m : Master) (slot : Fin 32) : ss.ownClaim m slot = true ↔
    txnNamesOpen slot (ss.txn m) = true ∨ copyClaims slot ss.copy = true := by
  rw [Store.ownClaim, Bool.or_eq_true]

/-! ## Overtaking (R125) -/

theorem overtake_none {s : State} {m : Master} {slot : Fin 32} (r : LostReason)
    (h : txnNamesOpen slot (s.ss.txn m.other) = false) : s.overtake m slot r = s := by
  rw [State.overtake, h]
  rfl

theorem overtake_some {s : State} {m : Master} {slot : Fin 32} (r : LostReason)
    (h : txnNamesOpen slot (s.ss.txn m.other) = true) :
    s.overtake m slot r = (s.endTxn m.other).post m.other (.txnLost slot r) := if_pos h

/-! ## SLOT_ERASE and SLOT_LOCK (R123, R124) -/

theorem slotOf_eq {b : Byte} {slot : Fin 32} (h : b.toNat = slot.val) : slotOf b = some slot := by
  have below : b.toNat < 32 := h ▸ slot.isLt
  exact (dif_pos below).trans (congrArg some (Fin.ext h))

theorem withSlot_right {a : Ask} {b : Byte} {slot : Fin 32} {right : Fin 32 → Bool} {s : State} {act : Fin 32 → State}
    (h : b.toNat = slot.val) (hr : right slot = true) : withSlot a b right s act = act slot := by
  unfold withSlot
  rw [slotOf_eq h]
  exact if_pos hr

theorem eraseRight_of {cfg : LoadedConfig} {m : Master} {slot : Fin 32} (h : m = .system ∨ slot.val < cfg.ng) :
    eraseRight cfg m slot = true := by
  cases m with
  | system => rfl
  | game => simpa [eraseRight, isGameSlot] using h

theorem exec_slotErase {s : State} {m : Master} (tag b : Byte) (h : s.takes m .store) :
    exec (.slotErase m tag b) s = .next (jobSlotErase ⟨m, tag, 0x39⟩ b (s.reserveSlot m)) := receive_takes h rfl

theorem exec_slotLock {s : State} {m : Master} (tag b : Byte) (on : Bool) (h : s.takes m .store) :
    exec (.slotLock m tag b on) s = .next (jobSlotLock ⟨m, tag, 0x3B⟩ b on (s.reserveSlot m)) := receive_takes h rfl

theorem jobSlotErase_right {s : State} {a : Ask} {b : Byte} {slot : Fin 32} (hb : b.toNat = slot.val)
    (hr : a.m = .system ∨ slot.val < s.bl.cfg.ng) : jobSlotErase a b (s.reserveSlot a.m) =
      if s.ss.lockSeen slot = true then s.withReply a.m a.kind a.tag .locked []
      else if s.ss.ownClaim a.m slot = true then s.withReply a.m a.kind a.tag .slotBusy []
      else if s.ss.queueFull = true then s.withReply a.m a.kind a.tag .busy []
      else (((s.reserveSlot a.m).overtake a.m slot .erased).appendEntry
        { kind := .erase, slot := slot, requester := a.m, tag := a.tag }).arbitrate := by
  rw [jobSlotErase, withSlot_right hb (eraseRight_of (by simpa using hr))]
  simp only [reserve_refuse, State.reserveSlot_ss]

theorem jobSlotLock_right {s : State} {a : Ask} {b : Byte} (on : Bool) {slot : Fin 32} (hb : b.toNat = slot.val)
    (hr : a.m = .system) : jobSlotLock a b on (s.reserveSlot a.m) =
      if on = true ∧ s.ss.ownClaim a.m slot = true then s.withReply a.m a.kind a.tag .slotBusy []
      else if s.ss.queueFull = true then s.withReply a.m a.kind a.tag .busy []
      else ((if on = true then (s.reserveSlot a.m).overtake a.m slot .locked else s.reserveSlot a.m).appendEntry
        { kind := .lock on, slot := slot, requester := a.m, tag := a.tag }).arbitrate := by
  rw [jobSlotLock, withSlot_right hb (by rw [hr]; rfl)]
  simp only [reserve_refuse, State.reserveSlot_ss, Bool.and_eq_true]

/-- Settles O51: an overtaken transaction ends as an aborted one does, the two requests by their checks, and the lock by
the newest entry that names the slot. -/
theorem eraseAndLock : Obligations.EraseAndLock := by
  refine ⟨fun m slot r s => ⟨overtake_none r, fun h => ⟨s.endTxn m.other, overtake_some r h, ?_, ?_, ?_, ?_⟩⟩,
    fun m tag b slot s ht hb hr => ?_, fun tag b slot on s ht hb => ?_,
    fun ss slot => ⟨fun old e new on hc he hn => ?_, fun hn => ⟨fun on hf => ?_, fun hf => ?_⟩, claimed_iff ss slot,
      fun m => txnNamesOpen_iff slot _, copyClaims_iff slot _, ?_⟩⟩
  · rw [endTxn_eq, endWork_ss, Store.withoutTxn]
  · rw [endTxn_eq, endWork_replies]
  · rw [endTxn_eq]
    exact orphan_eq _ _
  · rw [endTxn_eq]
    exact endWork_frame _ _ _ _ _ _
  · rw [exec_slotErase tag b ht, jobSlotErase_right (a := ⟨m, tag, 0x39⟩) hb hr]
    simp only [ownClaim_iff]
  · rw [exec_slotLock tag b on ht, jobSlotLock_right (a := ⟨.system, tag, 0x3B⟩) on hb rfl]
    simp only [ownClaim_iff]
    rfl
  · rw [lockSeen_eq, hc, queuedLock_newest he hn]
    rfl
  · rw [lockSeen_eq, queuedLock_none hn, (flyingLock_iff slot _ on).2 hf]
    rfl
  · have still : flyingLock slot ss.pageWrite = none :=
      Option.eq_none_iff_forall_ne_some.2 fun on h => hf on ((flyingLock_iff slot _ on).1 h)
    rw [lockSeen_eq, queuedLock_none hn, still]
    rfl
  · rw [Store.queueFull, decide_eq_true_iff, placesTaken_eq ss _ (fun h => if_pos h) fun h => if_neg h]
    rfl

end Sys2Proof.Machine
end

section
/-! SUPPORT. SLOT_COPY: its checks, its start, and the reads and writes of its regions (R126, R127). -/

namespace Sys2Proof.Machine

/-! ## What overtaking leaves of the store -/

theorem setTxn_dir (ss : Store) (m : Master) (x : Option Txn) : (ss.setTxn m x).dir = ss.dir := by
  cases m <;> rfl

/-- An overtaken transaction leaves the working directory as it is (R125). -/
theorem overtake_dir (s : State) (m : Master) (slot : Fin 32) (r : LostReason) :
    (s.overtake m slot r).ss.dir = s.ss.dir := by
  cases h : txnNamesOpen slot (s.ss.txn m.other) with
  | false => rw [overtake_none r h]
  | true =>
    rw [overtake_some r h, State.post_ss, endTxn_eq, endWork_ss]
    exact setTxn_dir s.ss m.other none

/-! ## The request (R126) -/

theorem ceilDiv_succ (n d : Nat) : ceilDiv n (d + 1) = (n + d) / (d + 1) := rfl

theorem blocksFor_eq (n : Nat) : blocksFor n = (n + 255) / 256 := ceilDiv_succ n 255

theorem noSpace_iff (s : State) (n : Nat) : s.noSpace n = true ↔ s.ss.freeBlocks.length < (n + 255) / 256 := by
  rw [State.noSpace, decide_eq_true_iff, blocksFor_eq]

theorem exec_slotCopy {s : State} {m : Master} (tag x y : Byte) (h : s.takes m .store) :
    exec (.slotCopy m tag x y) s = .next (jobSlotCopy ⟨m, tag, 0x3A⟩ x y (s.reserveSlot m)) := receive_takes h rfl

/-- The system processor has both rights of a copy (R137). -/
theorem jobSlotCopy_system {s : State} {a : Ask} {x y : Byte} {src dst : Fin 32} (hm : a.m = .system)
    (hx : x.toNat = src.val) (hy : y.toNat = dst.val) : jobSlotCopy a x y s = copyChecked a src dst s := by
  unfold jobSlotCopy
  rw [slotOf_eq hx, slotOf_eq hy, hm]
  rfl

/-- The checks that come before the source is looked at, in their order (R126). -/
theorem copyChecked_early {s : State} {a : Ask} {src dst : Fin 32} :
    (src = dst → copyChecked a src dst (s.reserveSlot a.m) = s.withReply a.m a.kind a.tag .range [])
    ∧ (src ≠ dst → s.ss.lockSeen dst = true →
      copyChecked a src dst (s.reserveSlot a.m) = s.withReply a.m a.kind a.tag .locked [])
    ∧ (src ≠ dst → s.ss.lockSeen dst = false →
      (s.ss.copy.isSome = true →
        copyChecked a src dst (s.reserveSlot a.m) = s.withReply a.m a.kind a.tag .busy [])
      ∧ (¬s.ss.copy.isSome = true → txnNamesOpen dst (s.ss.txn a.m) = true →
        copyChecked a src dst (s.reserveSlot a.m) = s.withReply a.m a.kind a.tag .slotBusy [])) := by
  simp only [copyChecked, State.reserveSlot_ss, reserve_refuse]
  refine ⟨fun h => if_pos h, fun h hl => ?_, fun h hl => ⟨fun hc => ?_, fun hc ho => ?_⟩⟩
  · rw [if_neg h, if_pos hl]
  · rw [if_neg h, if_neg (by simp [hl]), if_pos hc]
  · rw [if_neg h, if_neg (by simp [hl]), if_neg hc, if_pos ho]

section
variable {s : State} {a : Ask} {src dst : Fin 32} (h : src ≠ dst) (hl : s.ss.lockSeen dst = false)
  (hc : ¬s.ss.copy.isSome = true) (ho : ¬txnNamesOpen dst (s.ss.txn a.m) = true)
include h hl hc ho

theorem copyChecked_empty (hb : s.ss.dir.slots[src].body = none) :
    copyChecked a src dst (s.reserveSlot a.m) = s.withReply a.m a.kind a.tag .empty [] := by
  simp only [copyChecked, State.reserveSlot_ss]
  rw [if_neg h, if_neg (by simp [hl]), if_neg hc, if_neg ho, hb]
  exact reserve_refuse s a .empty

/-- The checks of a source that holds something, in their order, and the start of the copy (R126). -/
theorem copyChecked_body {x : SlotBody} (hb : s.ss.dir.slots[src].body = some x) :
    copyChecked a src dst (s.reserveSlot a.m) =
      if x.damaged = true then s.withReply a.m a.kind a.tag .damaged []
      else if s.ss.queueFull = true then s.withReply a.m a.kind a.tag .busy []
      else if s.ss.freeBlocks.length < (x.length + 255) / 256 then s.withReply a.m a.kind a.tag .noSpace []
      else (s.reserveSlot a.m).startCopy a src dst x := by
  simp only [copyChecked, State.reserveSlot_ss]
  rw [if_neg h, if_neg (by simp [hl]), if_neg hc, if_neg ho, hb]
  simp only [reserve_refuse, noSpace_iff, State.reserveSlot_ss]

end

/-- The copy's snapshot is the source as it stood before the overtaking, its reservation comes from the blocks free
after it (R125, R126). -/
theorem startCopy_eq (s : State) (a : Ask) (src dst : Fin 32) (x : SlotBody) : s.startCopy a src dst x =
    let r := s.overtake a.m dst .replaced
    let copy : Copy :=
      { requester := a.m, tag := a.tag, source := src, destination := dst, chain := x.chain
        length := x.length, check := x.check, serial := s.ss.dir.slots[src].serial
        reservation := r.ss.freeBlocks.take ((x.length + 255) / 256), region := 0, crc := 0xFFFF, queued := false }
    State.arbitrate { r with ss := { r.ss with
      copy := some copy
      ops := r.ss.ops ++ [{ owner := .copyRead, addr := regionAddr x.chain 0, bytes := none }] } } := by
  rw [← overtake_dir s a.m dst .replaced]
  rfl

/-! ## The copy's bursts (R127) -/

theorem exec_copyReadComplete {s : State} {op : StoreOp} (h : s.storeInFlight op false) (ho : op.owner = .copyRead) :
    exec .copyReadComplete s =
      .next (State.arbitrate (State.copyArrives op (s.readBurst op) (s.burstDone op))) :=
  completeStore_inFlight State.copyArrives h (by rw [ho]; rfl)

theorem exec_copyWriteComplete {s : State} {op : StoreOp} (h : s.storeInFlight op false) (ho : op.owner = .copyWrite) :
    exec .copyWriteComplete s =
      .next (State.arbitrate (State.copyWritten op (s.readBurst op) (s.burstDone op))) :=
  completeStore_inFlight State.copyWritten h (by rw [ho]; rfl)

/-- The write of the region that a read has brought (R127). -/
def Copy.write (c : Copy) (bytes : List Byte) : StoreOp :=
  { owner := .copyWrite, addr := regionAddr c.reservation c.region, bytes := some bytes }

/-- The copy's check once a region's bytes are taken in (R127). -/
def Copy.crcAfter (c : Copy) (bytes : List Byte) : Word := crc16From c.crc (contentIn c.length c.region bytes)

section
variable {s : State} {op : StoreOp} {bytes : List Byte} {c : Copy} (h : s.ss.copy = some c) (hq : c.queued = false)
include h hq

theorem copyArrives_within (hr : c.region + 1 < (c.length + 31) / 32) : State.copyArrives op bytes s =
    (s.setStore { s.ss with copy := some { c with crc := c.crcAfter bytes } }).pushOps [c.write bytes] := by
  unfold State.copyArrives
  rw [h]
  dsimp only
  rw [if_neg (by simp [hq])]
  exact if_pos hr

/-- After the last read the copy's own check decides (R127; log entry 22). -/
theorem copyArrives_last (hr : (c.length + 31) / 32 ≤ c.region + 1) : State.copyArrives op bytes s =
    if c.crcAfter bytes = c.check then
      ((s.setStore { s.ss with copy := some { c with crc := c.crcAfter bytes, queued := true } }).pushOps
        [c.write bytes]).appendEntry { kind := .copy, slot := c.destination, requester := c.requester, tag := c.tag }
    else s.copyDamaged c := by
  unfold State.copyArrives
  rw [h]
  dsimp only
  rw [if_neg (by simp [hq])]
  exact if_neg (Nat.not_lt.2 hr)

end

theorem copyWritten_eq {s : State} {c : Copy} (op : StoreOp) (bytes : List Byte) (h : s.ss.copy = some c) :
    State.copyWritten op bytes s = if c.queued = true then s
      else (s.setStore { s.ss with copy := some { c with region := c.region + 1 } }).pushOps
        [regionRead .copyRead c.chain (c.region + 1)] := by
  rw [State.copyWritten, h]

/-- Settles O53: the checks in their order, the start, and each burst by the region it belongs to. -/
theorem slotCopyRuns : Obligations.SlotCopyRuns := by
  refine ⟨fun tag bs bd src dst s ht hs hd => ?_, fun s op c hf ho hb hc hq => ⟨fun hr => ?_, fun hr hk => ?_,
    fun hr hk => ?_⟩, fun s op c hf ho hc => ?_⟩
  · have job : exec (.slotCopy .system tag bs bd) s =
        .next (copyChecked ⟨.system, tag, 0x3A⟩ src dst (s.reserveSlot .system)) := by
      rw [exec_slotCopy tag bs bd ht, jobSlotCopy_system rfl hs hd]
    obtain ⟨range, locked, late⟩ := copyChecked_early (s := s) (a := ⟨.system, tag, 0x3A⟩) (src := src) (dst := dst)
    refine ⟨fun h => ?_, fun h hl => ?_, fun h hl => ⟨fun hc => ?_, fun hc hn => ?_, fun hc hn hx => ?_,
      fun x hc hn hx => ?_⟩⟩
    · rw [job, range h]
    · rw [job, locked h hl]
    · rw [job, (late h hl).1 hc]
    · rw [job, (late h hl).2 hc hn]
    · rw [job, copyChecked_empty (a := ⟨.system, tag, 0x3A⟩) h hl hc hn hx]
    · rw [job, copyChecked_body (a := ⟨.system, tag, 0x3A⟩) h hl hc hn hx, startCopy_eq]
      rfl
  · rw [exec_copyReadComplete hf ho, copyArrives_within (s := s.burstDone op) hc hq hr]
    rfl
  · rw [exec_copyReadComplete hf ho, copyArrives_last (s := s.burstDone op) hc hq hr, if_pos (by exact hk)]
    rfl
  · rw [exec_copyReadComplete hf ho, copyArrives_last (s := s.burstDone op) hc hq hr, if_neg (by exact hk)]
    rfl
  · rw [exec_copyWriteComplete hf ho, copyWritten_eq (s := s.burstDone op) _ _ hc]
    rfl

end Sys2Proof.Machine
end

section
/-! SUPPORT. Marking damage and the read cursors: a mismatch, LOAD_OPEN, LOAD_DATA, its reads, and the close of a cursor
(R128 to R130, R134). -/

namespace Sys2Proof.Machine

/-! ## A mismatch (R134) -/

theorem valid_iff (e : SlotEntry) : e.state = .valid ↔ ∃ b, e.body = some b ∧ b.damaged = false := by
  rcases e with ⟨serial, locked, _ | b⟩
  · simp [SlotEntry.state]
  · cases hd : b.damaged <;> simp [SlotEntry.state, hd]

theorem versionCurrent_iff (s : State) (slot : Fin 32) (serial : Nat) : s.versionCurrent slot serial = true ↔
    s.ss.dir.slots[slot].serial = serial ∧ ∃ x, s.ss.dir.slots[slot].body = some x ∧ x.damaged = false := by
  rw [State.versionCurrent, Bool.and_eq_true, beq_iff_eq, beq_iff_eq, valid_iff]

theorem mark_eq {e : SlotEntry} {b : SlotBody} (h : e.body = some b) :
    e.mark = { e with body := some { b with damaged := true } } := by
  rw [SlotEntry.mark, h]
  rfl

theorem slotConcern_eq (ng : Nat) (slot : Fin 32) : slotConcern ng slot = if slot.val < ng then .game else .system := by
  simp [slotConcern, isGameSlot]

theorem mismatch_current {s : State} {slot : Fin 32} {serial : Nat} (h : s.versionCurrent slot serial = true) :
    s.mismatch slot serial = ({ s with ss := s.ss.setSlot slot s.ss.dir.slots[slot].mark } : State).postFault
      .slotDamaged (if slot.val < s.bl.cfg.ng then .game else .system) (some slot.val) := by
  rw [State.mismatch, if_pos h, ← slotConcern_eq]
  rfl

theorem mismatch_old {s : State} {slot : Fin 32} {serial : Nat} (h : s.ss.dir.slots[slot].serial ≠ serial
    ∨ s.ss.dir.slots[slot].body = none ∨ ∃ b, s.ss.dir.slots[slot].body = some b ∧ b.damaged = true) :
    s.mismatch slot serial = s := by
  refine if_neg fun hv => ?_
  obtain ⟨hs, x, hx, hd⟩ := (versionCurrent_iff s slot serial).1 hv
  rcases h with h | h | ⟨b, hb, hd'⟩
  · exact h hs
  · cases h.symm.trans hx
  · cases hb.symm.trans hx
    cases hd.symm.trans hd'

/-! ## The close of a cursor (R128, R130) -/

theorem isLoadOf_iff (m : Master) (op : StoreOp) : isLoadOf m op = true ↔ op.owner = .load m := by
  unfold isLoadOf
  split
  next k ho => rw [ho]; simp
  next ho => simpa using ho m

/-- The store once a master's cursor is closed: none stands, its waiting reads are withdrawn. -/
def Store.withoutCursor (ss : Store) (m : Master) : Store :=
  { ss.setCursor m none with ops := ss.ops.filter fun op => !isLoadOf m op }

theorem closeCursor_none {s : State} {m : Master} (h : s.ss.cursor m = none) : s.closeCursor m = s := by
  rw [State.closeCursor, h]

theorem closeCursor_some {s : State} {m : Master} {c : Cursor} (h : s.ss.cursor m = some c) : s.closeCursor m =
    s.endWork m 0x37 (c.loads.map (·.tag)) (isLoadOf m) (s.ss.withoutCursor m) := by
  rw [State.closeCursor, h]
  dsimp only
  rw [answerNone_eq]
  cases m <;> rfl

theorem closeCursor_cursor (s : State) (m : Master) : (s.closeCursor m).ss.cursor m = none := by
  cases h : s.ss.cursor m with
  | none => rw [closeCursor_none h, h]
  | some c =>
    rw [closeCursor_some h, endWork_ss]
    cases m <;> rfl

/-- The close of a cursor by a request that holds a reply slot of its own. -/
theorem reserve_closeCursor_answer (s : State) (a : Ask) (c : Code) (r : List Byte) :
    ((s.reserveSlot a.m).closeCursor a.m).answer a c r = (s.closeCursor a.m).withReply a.m a.kind a.tag c r := by
  cases h : s.ss.cursor a.m with
  | none => rw [closeCursor_none h, closeCursor_none (by simpa using h), reserve_answer]
  | some x =>
    rw [closeCursor_some h, closeCursor_some (c := x) (by simpa using h), State.reserveSlot_ss,
      reserve_endWork_answer _ _ _ _ _ _ a rfl]

theorem reserve_closeCursor_ss (s : State) (m k : Master) :
    ((s.reserveSlot m).closeCursor k).ss = (s.closeCursor k).ss := by
  cases h : s.ss.cursor k with
  | none => rw [closeCursor_none h, closeCursor_none (by simpa using h), State.reserveSlot_ss]
  | some x => rw [closeCursor_some h, closeCursor_some (c := x) (by simpa using h), endWork_ss, endWork_ss,
      State.reserveSlot_ss]

theorem answer_setStore (s : State) (ss : Store) (a : Ask) (c : Code) (r : List Byte) :
    (s.setStore ss).answer a c r = (s.answer a c r).setStore ss := by
  rcases a with ⟨_ | _, tag, k⟩ <;> rfl

theorem withReply_setStore (s : State) (ss : Store) (m : Master) (k tag : Byte) (c : Code) (r : List Byte) :
    (s.setStore ss).withReply m k tag c r = (s.withReply m k tag c r).setStore ss := by
  cases m <;> rfl

/-- The replies that the close of a cursor owes. -/
theorem closeCursor_replies (s : State) (m : Master) : ((s.closeCursor m).queues m).replies.map (·.2) =
    (s.queues m).replies.map (·.2) ++ match s.ss.cursor m with
      | none => []
      | some c => c.loads.map fun l => noTransaction 0x37 l.tag := by
  cases h : s.ss.cursor m with
  | none => rw [closeCursor_none h, List.append_nil]
  | some c => rw [closeCursor_some h, endWork_replies, List.map_map]; rfl

/-! ## LOAD_OPEN, LOAD_DATA and LOAD_CLOSE -/

theorem exec_loadOpen {s : State} {m : Master} (tag b : Byte) (h : s.takes m .store) :
    exec (.loadOpen m tag b) s = .next (jobLoadOpen ⟨m, tag, 0x36⟩ b (s.reserveSlot m)) := receive_takes h rfl

theorem exec_loadData {s : State} {m : Master} (tag n : Byte) (h : s.takes m .store) :
    exec (.loadData m tag n) s = .next (jobLoadData ⟨m, tag, 0x37⟩ n (s.reserveSlot m)) := receive_takes h rfl

theorem exec_loadClose {s : State} {m : Master} (tag : Byte) (h : s.takes m .store) : exec (.loadClose m tag) s =
    .next ((s.closeCursor m).withReply m 0x38 tag .ok []) :=
  (receive_takes (q := .loadClose) h rfl).trans
    (congrArg Host.Outcome.next (reserve_closeCursor_answer s ⟨m, tag, 0x38⟩ .ok []))

theorem readRight_of {cfg : LoadedConfig} {m : Master} {slot : Fin 32}
    (h : m = .system ∨ slot.val < cfg.ng ∨ cfg.visible = true) : readRight cfg m slot = true := by
  cases m with
  | system => rfl
  | game => simpa [readRight, isGameSlot] using h

section
variable {s : State} {a : Ask} {b : Byte} {slot : Fin 32} (hb : b.toNat = slot.val)
  (hr : a.m = .system ∨ slot.val < s.bl.cfg.ng ∨ s.bl.cfg.visible = true)
include hb hr

theorem jobLoadOpen_empty (h : s.ss.dir.slots[slot].body = none) :
    jobLoadOpen a b (s.reserveSlot a.m) = s.withReply a.m a.kind a.tag .empty [] := by
  rw [jobLoadOpen, withSlot_right hb (readRight_of (by simpa using hr))]
  simp only [State.reserveSlot_ss, h]
  exact reserve_refuse s a .empty

theorem jobLoadOpen_damaged {x : SlotBody} (h : s.ss.dir.slots[slot].body = some x) (hd : x.damaged = true) :
    jobLoadOpen a b (s.reserveSlot a.m) = s.withReply a.m a.kind a.tag .damaged [] := by
  rw [jobLoadOpen, withSlot_right hb (readRight_of (by simpa using hr))]
  simp only [State.reserveSlot_ss, h, hd, ↓reduceIte]
  exact reserve_refuse s a .damaged

/-- A cursor opens on the slot version, and the one that stood is closed (R128). -/
theorem jobLoadOpen_valid {x : SlotBody} (h : s.ss.dir.slots[slot].body = some x) (hd : x.damaged = false) :
    jobLoadOpen a b (s.reserveSlot a.m) = ((s.closeCursor a.m).setStore ((s.closeCursor a.m).ss.setCursor a.m
        (some (newCursor slot s.ss.dir.slots[slot].serial x)))).withReply a.m a.kind a.tag .ok
      (u16 x.length ++ u16 s.ss.dir.slots[slot].serial) := by
  rw [jobLoadOpen, withSlot_right hb (readRight_of (by simpa using hr))]
  simp only [State.reserveSlot_ss, h, hd, Bool.false_eq_true, ↓reduceIte]
  rw [answer_setStore, reserve_closeCursor_answer, reserve_closeCursor_ss, withReply_setStore]

end

theorem jobLoadData_range {s : State} {a : Ask} {n : Byte} (h : n.toNat = 0 ∨ 64 < n.toNat) :
    jobLoadData a n (s.reserveSlot a.m) = s.withReply a.m a.kind a.tag .range [] := by
  rw [jobLoadData, if_pos h, reserve_refuse]

section
variable {s : State} {a : Ask} {n : Byte} (h0 : 0 < n.toNat) (h1 : n.toNat ≤ 64)
include h0 h1

theorem jobLoadData_none (h : s.ss.cursor a.m = none) :
    jobLoadData a n (s.reserveSlot a.m) = s.withReply a.m a.kind a.tag .noTransaction [] := by
  rw [jobLoadData, if_neg (by omega), State.reserveSlot_ss, h]
  exact reserve_refuse s a .noTransaction

/-- A LOAD_DATA takes the smaller of its count and what is left (R129). -/
theorem jobLoadData_some {c : Cursor} (h : s.ss.cursor a.m = some c) : jobLoadData a n (s.reserveSlot a.m) =
    if min n.toNat (c.length - c.pos) = 0 then s.withReply a.m a.kind a.tag .ok []
    else (s.reserveSlot a.m).acceptLoad a c (min n.toNat (c.length - c.pos)) := by
  rw [jobLoadData, if_neg (by omega), State.reserveSlot_ss, h]
  exact ite_congr rfl (fun _ => reserve_answer s a .ok []) fun _ => rfl

end

/-- The reads that an accepted LOAD_DATA places, one for each region that its bytes touch (R129). -/
theorem loadOps_eq (m : Master) (chain : List Nat) (pos take : Nat) : loadOps m chain pos take =
    (List.range ((pos % 32 + take + 31) / 32)).map fun i =>
      { owner := .load m, addr := regionAddr chain (pos / 32 + i), bytes := none } := by
  rw [loadOps, show regionBytes = 31 + 1 from rfl, ceilDiv_succ]
  rfl

theorem loadOps_length (m : Master) (chain : List Nat) (pos take : Nat) :
    (loadOps m chain pos take).length = (pos % 32 + take + 31) / 32 := by
  rw [loadOps_eq, List.length_map, List.length_range]

/-! ## The reads of a cursor (R129) -/

theorem exec_loadReadComplete {s : State} {op : StoreOp} {m : Master} (h : s.storeInFlight op false)
    (ho : op.owner = .load m) : exec .loadReadComplete s =
      .next (State.arbitrate (State.loadArrives op (s.readBurst op) (s.burstDone op))) :=
  completeStore_inFlight State.loadArrives h (by rw [ho]; rfl)

/-- A read goes to the oldest LOAD_DATA, which ends with its last read (R129). -/
theorem loadArrives_eq {s : State} {op : StoreOp} {m : Master} {c : Cursor} {l : LoadReq} {rest : List LoadReq}
    (bytes : List Byte) (ho : op.owner = .load m) (hc : s.ss.cursor m = some c) (hl : c.loads = l :: rest) :
    State.loadArrives op bytes s =
      let next := { l with got := l.got ++ bytes, burstsLeft := l.burstsLeft - 1 }
      if 1 < l.burstsLeft then s.setStore (s.ss.setCursor m (some { c with loads := next :: rest }))
      else s.finishLoad m c next rest := by
  unfold State.loadArrives
  rw [ho]
  dsimp only
  rw [hc]
  dsimp only
  rw [hl]
  dsimp only
  by_cases h : 1 < l.burstsLeft
  · rw [if_neg (by omega), if_pos h]
  · rw [if_pos (by omega), if_neg h]

/-- Settles O54: a mismatch by the slot's state, each request by its checks, a read by what its request still lacks, and
the close of a cursor as the end of work. -/
theorem loadRequests : Obligations.LoadRequests := by
  refine ⟨fun s slot serial => ⟨fun b hb hd hs => ?_, mismatch_old⟩,
    fun m tag b slot s ht hb hr => ⟨fun h => ?_, fun x hx => ⟨fun hd => ?_, fun hd => ?_⟩⟩,
    fun m tag n s ht => ⟨fun h => ?_, fun h0 h1 => ⟨fun h => ?_, fun c hc => ⟨fun h => ?_, fun h => ?_⟩⟩⟩,
    fun m s op c l rest hf ho hb hc hl => ?_,
    fun m s => ⟨closeCursor_none, fun c hc => ⟨s.closeCursor m, rfl, ?_, ?_, ?_, ?_⟩⟩, isLoadOf_iff,
    fun m tag s ht => ⟨_, exec_loadClose tag ht, ?_, ?_, ?_, ?_, ?_⟩⟩
  · rw [mismatch_current ((versionCurrent_iff s slot serial).2 ⟨hs, b, hb, hd⟩), mark_eq hb]
    rfl
  · rw [exec_loadOpen tag b ht, jobLoadOpen_empty (a := ⟨m, tag, 0x36⟩) hb hr h]
  · rw [exec_loadOpen tag b ht, jobLoadOpen_damaged (a := ⟨m, tag, 0x36⟩) hb hr hx hd]
  · rw [exec_loadOpen tag b ht, jobLoadOpen_valid (a := ⟨m, tag, 0x36⟩) hb hr hx hd]
    rfl
  · rw [exec_loadData tag n ht, jobLoadData_range (a := ⟨m, tag, 0x37⟩) h]
  · rw [exec_loadData tag n ht, jobLoadData_none (a := ⟨m, tag, 0x37⟩) h0 h1 h]
  · rw [exec_loadData tag n ht, jobLoadData_some (a := ⟨m, tag, 0x37⟩) h0 h1 hc, if_pos (by exact h)]
  · rw [exec_loadData tag n ht, jobLoadData_some (a := ⟨m, tag, 0x37⟩) h0 h1 hc, if_neg (Nat.ne_of_gt (by exact h)),
      State.acceptLoad, loadOps_length, loadOps_eq, State.reserveSlot_ss]
    rfl
  · rw [exec_loadReadComplete hf ho, loadArrives_eq (s := s.burstDone op) _ ho hc hl]
    rfl
  · rw [closeCursor_some hc, endWork_ss, Store.withoutCursor]
  · rw [closeCursor_some hc]
    exact orphan_eq _ _
  · rw [closeCursor_replies, hc]
  · rw [closeCursor_some hc]
    exact endWork_frame _ _ _ _ _ _
  · rw [State.withReply_ss, closeCursor_cursor]
  · exact (withReply_replies _ m _ _ _ _).trans (congrArg (· ++ _) (closeCursor_replies s m))
  · rw [State.withReply_ss]
  · rw [State.withReply_pma]
  · obtain ⟨ss, p, g, y, h⟩ := closeCursor_frame s m
    rw [h]
    cases m <;> rfl

end Sys2Proof.Machine
end

section
/-! SUPPORT. STORE_VERIFY: its scopes, the slots that a verify takes, the requests that start, join or wait, and the
reads of the slot being read (R131 to R133). -/

namespace Sys2Proof.Machine

/-! ## Scopes (R131, R174; log entries 21 and 42) -/

theorem mem_slots (sc : VerifyScope) (ng : Nat) (x : Fin 32) : x ∈ sc.slots ng ↔ sc.has ng x = true := by
  simp [VerifyScope.slots, slotNumbers]

theorem slots_pairwise (sc : VerifyScope) (ng : Nat) : (sc.slots ng).Pairwise (· < ·) :=
  (List.pairwise_lt_finRange 32).filter _

theorem covers_iff (big small : VerifyScope) (ng : Nat) : big.covers ng small = true ↔ big = .all ∨ big = small
    ∨ ∃ slot : Fin 32, small = .one slot ∧ (big = .game ∧ slot.val < ng ∨ big = .system ∧ ng ≤ slot.val) := by
  cases big with
  | all => simp [VerifyScope.covers]
  | one x => cases small <;> simp [VerifyScope.covers]
  | game => cases small <;> simp [VerifyScope.covers, isGameSlot]
  | system => cases small <;> simp [VerifyScope.covers, isGameSlot]

theorem scopeOf_unnamed {scope b : Byte} (h : 4 ≤ scope.toNat ∨ scope = 0 ∧ 32 ≤ b.toNat) : scopeOf scope b = none := by
  rcases h with h | ⟨rfl, h⟩
  · have unnamed : ∀ k : Byte, k.toNat < 4 → scope ≠ k := fun k hk he => by rw [he] at h; omega
    rw [scopeOf, if_neg (unnamed 0 (by decide)), if_neg (unnamed 1 (by decide)), if_neg (unnamed 2 (by decide)),
      if_neg (unnamed 3 (by decide))]
  · rw [scopeOf, if_pos rfl, slotOf, dif_neg (by omega)]
    rfl

theorem scopeOf_one {b : Byte} {slot : Fin 32} (h : b.toNat = slot.val) : scopeOf 0 b = some (.one slot) := by
  rw [scopeOf, if_pos rfl, slotOf_eq h]
  rfl

theorem one_fields {b : Byte} {slot : Fin 32} (h : b.toNat = slot.val) : (VerifyScope.one slot).fields = [0, b] := by
  have back : BitVec.ofNat 8 slot.val = b := by rw [← h, BitVec.ofNat_toNat, BitVec.setWidth_eq]
  exact congrArg (fun x => [0, x]) back

/-! ## The next slot (R133) -/

/-- A slot is VALID in a directory. -/
def Directory.validAt (d : Directory) (slot : Fin 32) : Prop := ∃ b, d.slots[slot].body = some b ∧ b.damaged = false

theorem firstValid_skip {d : Directory} {slot : Fin 32} (h : ¬d.validAt slot) (rest : List (Fin 32)) :
    d.firstValid (slot :: rest) = d.firstValid rest := by
  rw [Directory.firstValid]
  cases hb : d.slots[slot].body with
  | none => rfl
  | some b => exact if_pos (by simpa using fun hd => h ⟨b, hb, hd⟩)

theorem firstValid_take {d : Directory} {slot : Fin 32} {b : SlotBody} (hb : d.slots[slot].body = some b)
    (hd : b.damaged = false) (rest : List (Fin 32)) :
    d.firstValid (slot :: rest) = some ((slot, d.slots[slot].serial, b), rest) := by
  rw [Directory.firstValid, hb]
  exact if_neg (by simp [hd])

theorem firstValid_none (d : Directory) (l : List (Fin 32)) : d.firstValid l = none ↔ ∀ slot ∈ l, ¬d.validAt slot := by
  induction l with
  | nil => simp [Directory.firstValid]
  | cons slot rest ih =>
    by_cases h : d.validAt slot
    · obtain ⟨b, hb, hd⟩ := h
      rw [firstValid_take hb hd]
      exact ⟨fun hn => (by cases hn), fun hn => absurd ⟨b, hb, hd⟩ (hn slot (by simp))⟩
    · rw [firstValid_skip h, ih, List.forall_mem_cons, and_iff_right h]

theorem firstValid_some {d : Directory} {l : List (Fin 32)} {slot : Fin 32} {serial : Nat} {b : SlotBody}
    {rest : List (Fin 32)} (h : d.firstValid l = some ((slot, serial, b), rest)) :
    d.slots[slot].body = some b ∧ b.damaged = false ∧ d.slots[slot].serial = serial
      ∧ ∃ passed, l = passed ++ slot :: rest ∧ ∀ y ∈ passed, ¬d.validAt y := by
  induction l with
  | nil => cases h
  | cons x l ih =>
    by_cases hx : d.validAt x
    · obtain ⟨b', hb, hd⟩ := hx
      rw [firstValid_take hb hd] at h
      cases h
      exact ⟨hb, hd, rfl, [], rfl, by simp⟩
    · obtain ⟨hb, hd, hs, passed, rfl, hp⟩ := ih (firstValid_skip hx l ▸ h)
      exact ⟨hb, hd, hs, x :: passed, rfl, List.forall_mem_cons.2 ⟨hx, hp⟩⟩

/-! ## A verify goes on (R133) -/

theorem replyVerify_frame (s : State) (v : Verify) : ∃ g y, s.replyVerify v = { s with game := g, sys := y } := by
  unfold State.replyVerify
  generalize v.requesters = l
  induction l generalizing s with
  | nil => exact ⟨_, _, rfl⟩
  | cons r rest ih =>
    obtain ⟨g, y, h⟩ := answer_frame s ⟨r.1, r.2, Req.kind (.storeVerify 0 0)⟩ .ok v.fields
    obtain ⟨g', y', h'⟩ := ih { s with game := g, sys := y }
    exact ⟨g', y', by rw [List.foldl_cons, h, h']⟩

section
variable {s : State} {v : Verify} (h : s.ss.verify = some v)
include h

theorem advanceVerify_slot (n : Nat) {slot : Fin 32} {serial : Nat} {x : SlotBody} {rest : List (Fin 32)}
    (hf : s.ss.dir.firstValid v.rest = some ((slot, serial, x), rest)) :
    State.advanceVerify (n + 1) s = s.verifySlot v slot serial x rest := by
  rw [State.advanceVerify, h]
  dsimp only
  rw [hf]

/-- After its last slot a verify ends with its replies (R133). -/
theorem advanceVerify_ends (n : Nat) (hf : s.ss.dir.firstValid v.rest = none) (hp : s.ss.pendingVerify = none) :
    State.advanceVerify (n + 1) s = (s.setStore { s.ss with verify := none }).replyVerify v := by
  obtain ⟨g, y, told⟩ := replyVerify_frame (s.setStore { s.ss with verify := none }) v
  rw [State.advanceVerify, h]
  dsimp only
  rw [hf, told]
  dsimp only [State.setStore]
  rw [hp]

/-- Behind a verify that has ended the pending one starts (R132). -/
theorem advanceVerify_pending (n : Nat) (hf : s.ss.dir.firstValid v.rest = none) {p : PendingVerify}
    (hp : s.ss.pendingVerify = some p) : State.advanceVerify (n + 1) s =
      let told := (s.setStore { s.ss with verify := none }).replyVerify v
      State.advanceVerify n (told.setStore { told.ss with
        verify := some (newVerify s.bl.cfg.ng p.scope p.requesters), pendingVerify := none }) := by
  obtain ⟨g, y, told⟩ := replyVerify_frame (s.setStore { s.ss with verify := none }) v
  rw [State.advanceVerify, h]
  dsimp only
  rw [hf, told]
  dsimp only [State.setStore]
  rw [hp]

end

/-! ## The request (R131, R132) -/

theorem exec_storeVerify {s : State} {m : Master} (tag x y : Byte) (h : s.takes m .store) :
    exec (.storeVerify m tag x y) s = .next (jobStoreVerify ⟨m, tag, 0x3C⟩ x y (s.reserveSlot m)) := receive_takes h rfl

theorem jobStoreVerify_range {s : State} {a : Ask} {x y : Byte} (h : scopeOf x y = none) :
    jobStoreVerify a x y (s.reserveSlot a.m) = s.withReply a.m a.kind a.tag .range [] := by
  rw [jobStoreVerify, h]
  exact reserve_refuse s a .range

/-- A verify whose every slot the requester may read is placed (R131). -/
theorem jobStoreVerify_readable {s : State} {a : Ask} {x y : Byte} {sc : VerifyScope} (h : scopeOf x y = some sc)
    (hr : ∀ slot ∈ sc.slots s.bl.cfg.ng, a.m = .system ∨ slot.val < s.bl.cfg.ng ∨ s.bl.cfg.visible = true) :
    jobStoreVerify a x y (s.reserveSlot a.m) = (s.reserveSlot a.m).placeVerify a sc := by
  rw [jobStoreVerify, h]
  exact if_pos (List.all_eq_true.2 fun slot hs => by
    rw [State.reserveSlot_bl] at hs ⊢
    exact readRight_of (hr slot hs))

/-- A pending verify with one more requester, whose scope is the wider of the two (R132). -/
def PendingVerify.taking (p : PendingVerify) (ng : Nat) (sc : VerifyScope) (r : Master × Byte) : PendingVerify :=
  { scope := if p.scope.covers ng sc = true then p.scope else sc, requesters := p.requesters ++ [r] }

section
variable {s : State} {a : Ask} {sc : VerifyScope}

theorem placeVerify_starts (hv : s.ss.verify = none) {slot : Fin 32} {serial : Nat} {x : SlotBody}
    {rest : List (Fin 32)} (hf : s.ss.dir.firstValid (sc.slots s.bl.cfg.ng) = some ((slot, serial, x), rest)) :
    (s.reserveSlot a.m).placeVerify a sc =
      ((s.reserveSlot a.m).verifySlot (newVerify s.bl.cfg.ng sc [(a.m, a.tag)]) slot serial x rest).arbitrate := by
  rw [State.placeVerify, State.reserveSlot_ss, State.reserveSlot_bl, hv]
  dsimp only
  rw [verifyFuel, advanceVerify_slot (v := newVerify s.bl.cfg.ng sc [(a.m, a.tag)]) rfl 1 (by exact hf)]
  simp only [State.verifySlot, State.setStore, State.pushOps, State.reserveSlot_ss]

/-- A verify of a scope without a VALID slot is answered at once (R133). -/
theorem placeVerify_nothing (hv : s.ss.verify = none) (hp : s.ss.pendingVerify = none)
    (hf : s.ss.dir.firstValid (sc.slots s.bl.cfg.ng) = none) : (s.reserveSlot a.m).placeVerify a sc =
      (s.withReply a.m 0x3C a.tag .ok (sc.fields ++ [0, 0])).arbitrate := by
  have idle : (s.reserveSlot a.m).setStore { s.ss with verify := none } = s.reserveSlot a.m := by
    rw [← hv, ← State.reserveSlot_ss s a.m]
    rfl
  have counts : (newVerify s.bl.cfg.ng sc [(a.m, a.tag)]).fields = sc.fields ++ [0, 0] := List.append_assoc _ _ _
  rw [State.placeVerify, State.reserveSlot_ss, State.reserveSlot_bl, hv]
  dsimp only
  rw [verifyFuel, advanceVerify_ends (v := newVerify s.bl.cfg.ng sc [(a.m, a.tag)]) rfl 1 (by exact hf) (by exact hp)]
  show (((s.reserveSlot a.m).setStore { s.ss with verify := none }).answer ⟨a.m, a.tag, 0x3C⟩ .ok
    (newVerify s.bl.cfg.ng sc [(a.m, a.tag)]).fields).arbitrate = _
  rw [idle, counts]
  exact congrArg State.arbitrate (reserve_answer s ⟨a.m, a.tag, 0x3C⟩ .ok _)

variable {v : Verify} (hv : s.ss.verify = some v)
include hv

theorem placeVerify_joins (hc : v.scope.covers s.bl.cfg.ng sc = true) : (s.reserveSlot a.m).placeVerify a sc =
    (s.reserveSlot a.m).setStore { s.ss with
      verify := some { v with requesters := v.requesters ++ [(a.m, a.tag)] } } := by
  rw [State.placeVerify, State.reserveSlot_ss, State.reserveSlot_bl, hv]
  exact if_pos hc

theorem placeVerify_waits (hc : v.scope.covers s.bl.cfg.ng sc = false) (hp : s.ss.pendingVerify = none) :
    (s.reserveSlot a.m).placeVerify a sc =
      (s.reserveSlot a.m).setStore { s.ss with pendingVerify := some ⟨sc, [(a.m, a.tag)]⟩ } := by
  rw [State.placeVerify, State.reserveSlot_ss, State.reserveSlot_bl, hv]
  dsimp only
  rw [if_neg (by simp [hc]), hp]

/-- With a verify pending, a scope that either covers goes with it, and any other is refused (R132). -/
theorem placeVerify_widens (hc : v.scope.covers s.bl.cfg.ng sc = false) {p : PendingVerify}
    (hp : s.ss.pendingVerify = some p) : (s.reserveSlot a.m).placeVerify a sc =
      if p.scope.covers s.bl.cfg.ng sc = true ∨ sc.covers s.bl.cfg.ng p.scope = true then
        (s.reserveSlot a.m).setStore
          { s.ss with pendingVerify := some (p.taking s.bl.cfg.ng sc (a.m, a.tag)) }
      else s.withReply a.m a.kind a.tag .busy [] := by
  rw [State.placeVerify, State.reserveSlot_ss, State.reserveSlot_bl, hv]
  dsimp only
  rw [if_neg (by simp [hc]), hp]
  dsimp only
  rw [PendingVerify.taking]
  by_cases hin : p.scope.covers s.bl.cfg.ng sc = true
  · rw [if_pos hin, if_pos (.inl hin), if_pos hin]
  · rw [if_neg hin, if_neg hin]
    by_cases hout : sc.covers s.bl.cfg.ng p.scope = true
    · rw [if_pos hout, if_pos (.inr hout)]
    · rw [if_neg hout, if_neg (not_or.2 ⟨hin, hout⟩), reserve_refuse]

end

/-! ## The reads of a verify (R133) -/

theorem exec_verifyReadComplete {s : State} {op : StoreOp} (h : s.storeInFlight op false) (ho : op.owner = .verify) :
    exec .verifyReadComplete s =
      .next (State.arbitrate (State.verifyArrives op (s.readBurst op) (s.burstDone op))) :=
  completeStore_inFlight State.verifyArrives h (by rw [ho]; rfl)

/-- The check of the slot being read once a region's bytes are taken in. -/
def VerifySlot.crcAfter (c : VerifySlot) (bytes : List Byte) : Word :=
  crc16From c.crc (contentIn c.length c.region bytes)

/-- The verify once it has checked its slot, which counts as damaged when it is found so. -/
def Verify.counted (v : Verify) (found : Prop) [Decidable found] : Verify :=
  { v with current := none, checked := v.checked + 1, damaged := if found then v.damaged + 1 else v.damaged }

section
variable {s : State} {op : StoreOp} {bytes : List Byte} {v : Verify} {c : VerifySlot} (hv : s.ss.verify = some v)
  (hc : v.current = some c)
include hv hc

theorem verifyArrives_within (hr : c.region + 1 < (c.length + 31) / 32) : State.verifyArrives op bytes s =
    (s.setStore { s.ss with verify := some { v with
      current := some { c with crc := c.crcAfter bytes, region := c.region + 1 } } }).pushOps
        [regionRead .verify c.chain (c.region + 1)] := by
  rw [State.verifyArrives, hv]
  dsimp only
  rw [hc]
  exact if_pos hr

/-- The last read of a slot: a mismatch marks it when its version is still current (R133, R134). -/
theorem verifyArrives_last (hr : (c.length + 31) / 32 ≤ c.region + 1) : State.verifyArrives op bytes s =
    let found := c.crcAfter bytes ≠ c.check ∧ s.versionCurrent c.slot c.serial = true
    let u := s.setStore { s.ss with verify := some (v.counted found) }
    State.advanceVerify 2 (if c.crcAfter bytes ≠ c.check then u.mismatch c.slot c.serial else u) := by
  rw [State.verifyArrives, hv]
  dsimp only
  rw [hc]
  refine (if_neg (Nat.not_lt.2 hr)).trans ?_
  show s.verifyDone v c (c.crcAfter bytes) = _
  have same : ∀ w, (s.setStore { s.ss with verify := some w }).versionCurrent c.slot c.serial =
      s.versionCurrent c.slot c.serial := fun _ => rfl
  by_cases hk : c.crcAfter bytes = c.check
  · simp [State.verifyDone, Verify.counted, hk, verifyFuel]
  · cases hs : s.versionCurrent c.slot c.serial <;>
      simp [State.verifyDone, Verify.counted, hk, hs, verifyFuel, State.mismatch, same]

end

/-- Settles O55: the scopes, the next VALID slot, the request by the verifies that stand, the end of a verify, and its
reads. -/
theorem verifyRuns : Obligations.VerifyRuns := by
  refine ⟨fun d l => ⟨firstValid_none d l, fun slot serial b rest => firstValid_some⟩,
    fun m tag scope b s ht => ⟨fun h => ?_, fun sc hsc hr => ⟨fun hv hp => ⟨fun slot serial x rest hf => ?_,
      fun hf => ?_⟩, fun v hv => ⟨fun hc => ?_, fun hc hp => ?_, fun p hc hp => ?_⟩⟩⟩,
    fun s v n hv => ⟨fun slot serial x rest hf => ?_, fun hf => ⟨fun hp => ?_, fun p hp => ?_⟩⟩,
    fun s op v c hf ho hb hv hc => ⟨fun hr => ?_, fun hr => ?_⟩, covers_iff,
    fun ng slot x => ⟨?_, ?_, ?_, ?_⟩, slots_pairwise, fun b slot h => ⟨scopeOf_one h, one_fields h⟩,
    fun b => ⟨rfl, rfl, rfl⟩, ⟨rfl, rfl, rfl⟩, versionCurrent_iff⟩
  · rw [exec_storeVerify tag scope b ht, jobStoreVerify_range (a := ⟨m, tag, 0x3C⟩) (scopeOf_unnamed h)]
  · rw [exec_storeVerify tag scope b ht, jobStoreVerify_readable (a := ⟨m, tag, 0x3C⟩) hsc hr,
      placeVerify_starts (a := ⟨m, tag, 0x3C⟩) hv hf]
    simp only [State.verifySlot, State.reserveSlot_ss]
    rfl
  · rw [exec_storeVerify tag scope b ht, jobStoreVerify_readable (a := ⟨m, tag, 0x3C⟩) hsc hr,
      placeVerify_nothing (a := ⟨m, tag, 0x3C⟩) hv hp hf]
  · rw [exec_storeVerify tag scope b ht, jobStoreVerify_readable (a := ⟨m, tag, 0x3C⟩) hsc hr,
      placeVerify_joins (a := ⟨m, tag, 0x3C⟩) hv hc]
    rfl
  · rw [exec_storeVerify tag scope b ht, jobStoreVerify_readable (a := ⟨m, tag, 0x3C⟩) hsc hr,
      placeVerify_waits (a := ⟨m, tag, 0x3C⟩) hv hc hp]
    rfl
  · rw [exec_storeVerify tag scope b ht, jobStoreVerify_readable (a := ⟨m, tag, 0x3C⟩) hsc hr,
      placeVerify_widens (a := ⟨m, tag, 0x3C⟩) hv hc hp]
    rfl
  · rw [advanceVerify_slot hv n hf]
    rfl
  · rw [advanceVerify_ends hv n hf hp]
    rfl
  · rw [advanceVerify_pending hv n hf hp]
    rfl
  · rw [exec_verifyReadComplete hf ho, verifyArrives_within (s := s.burstDone op) hv hc hr]
    rfl
  · rw [exec_verifyReadComplete hf ho, verifyArrives_last (s := s.burstDone op) hv hc hr]
    rfl
  · rw [mem_slots]
    exact beq_iff_eq.trans eq_comm
  · simp [mem_slots, VerifyScope.has, isGameSlot]
  · simp [mem_slots, VerifyScope.has, isGameSlot]
  · simp [mem_slots, VerifyScope.has]

end Sys2Proof.Machine
end

section
/-! SUPPORT. Taking a fault: the searches of the log, the notices that tell of a record, and the branches that a
posted fault can take (R143 to R145). -/

namespace Sys2Proof.Machine

/-! ## The log's searches (R143) -/

/-- A search of the records in the order `f` finds the first in that order. -/
theorem find_records {p : Fin 8 → Bool} {f : Fin 8 → Fin 8} {i : Fin 8} :
    (recordNumbers.map f).find? p = some i ↔
      ∃ d : Fin 8, i = f d ∧ p i = true ∧ ∀ e : Fin 8, e < d → p (f e) = false := by
  show ((List.finRange 8).map f).find? p = some i ↔ _
  rw [List.find?_eq_some_iff_getElem]
  constructor
  · rintro ⟨hit, d, hd, at_d, before⟩
    have below : d < 8 := by rwa [List.length_map, List.length_finRange] at hd
    refine ⟨⟨d, below⟩, ?_, hit, fun e he => ?_⟩
    · rw [← at_d, List.getElem_map, List.getElem_finRange]
      rfl
    · have missed := before e.val he
      rw [List.getElem_map, List.getElem_finRange] at missed
      exact (Bool.not_eq_true' _).mp missed
  · rintro ⟨d, rfl, hit, before⟩
    refine ⟨hit, d.val, ?_, ?_, fun e he => ?_⟩
    · rw [List.length_map, List.length_finRange]
      exact d.isLt
    · rw [List.getElem_map, List.getElem_finRange]
      rfl
    · rw [List.getElem_map, List.getElem_finRange]
      exact (Bool.not_eq_true' _).mpr (before ⟨e, Nat.lt_trans he d.isLt⟩ he)

theorem firstPending_iff {fl : FaultLog} {i : Fin 8} : fl.firstPending = some i ↔ ∃ d : Fin 8, i = fl.w + d
    ∧ fl.records[i].valid = true ∧ ∀ e : Fin 8, e < d → fl.records[fl.w + e].valid = false := find_records

theorem newest_iff {fl : FaultLog} {i : Fin 8} : fl.newest = some i ↔ ∃ d : Fin 8, i = fl.w - 1 - d
    ∧ fl.records[i].valid = true ∧ ∀ e : Fin 8, e < d → fl.records[fl.w - 1 - e].valid = false := find_records

theorem countFor_eq_zero {fl : FaultLog} {m : Master} :
    fl.countFor m = 0 ↔ ∀ j : Fin 8, fl.records[j].concerns m = false := by
  rw [FaultLog.countFor, List.length_eq_zero_iff, List.filter_eq_nil_iff]
  simp [recordNumbers]

theorem FaultRecord.equals_iff {r : FaultRecord} {k : FaultKind} {x : Option Nat} :
    r.equals k x = true ↔ r.kind = k ∧ r.subject = x := by simp [FaultRecord.equals]

/-- The concerned value becomes BOTH where the fault's own differs (R144). -/
theorem FaultRecord.absorb_eq (r : FaultRecord) (c : Concerned) : r.absorb c =
    { r with repeats := min 255 (r.repeats + 1), concerned := if r.concerned = c then c else .both } := by
  unfold FaultRecord.absorb
  by_cases h : r.concerned = c
  · rw [if_pos h, if_pos h, h]
  · rw [if_neg h, if_neg h]

/-! ## The notices (R145) -/

/-- A master's queues once record `i` of the log stands: told of it when nothing in the log before concerned the master
and the record does. -/
def Queues.told (q : Queues) (before after : FaultLog) (i : Fin 8) (m : Master) : Queues :=
  if (∀ j : Fin 8, before.records[j].concerns m = false) ∧ after.records[i].concerned.includes m = true then
    q.post (.faultLogged i after.records[i].kind after.records[i].concerned after.records[i].subject)
  else q

theorem faultNotice_eq (s : State) (before : FaultLog) (i : Fin 8) (m : Master) :
    s.faultNotice before i m = s.setQueues m ((s.queues m).told before s.fl i m) := by
  have guard : (s.fl.records[i].concerned.includes m && before.countFor m == 0) = true ↔
      (∀ j : Fin 8, before.records[j].concerns m = false) ∧ s.fl.records[i].concerned.includes m = true := by
    rw [Bool.and_eq_true_iff, beq_iff_eq, countFor_eq_zero, and_comm]
  by_cases h : (∀ j : Fin 8, before.records[j].concerns m = false) ∧ s.fl.records[i].concerned.includes m = true
  · rw [Queues.told, if_pos h]
    exact if_pos (guard.2 h)
  · rw [Queues.told, if_neg h, State.setQueues_self]
    exact if_neg (mt guard.1 h)

/-- What a record's writing changes: the log, and the queues of the masters told. -/
theorem recordFault_eq (s : State) (fl : FaultLog) (i : Fin 8) : s.recordFault fl i = { s with
    fl := fl
    game := { s.game with q := s.game.q.told s.fl fl i .game }
    sys := { s.sys with q := s.sys.q.told s.fl fl i .system } } := by
  rw [State.recordFault, faultNotice_eq, faultNotice_eq]
  rfl

theorem recordFault_queues (s : State) (fl : FaultLog) (i : Fin 8) (m : Master) :
    (s.recordFault fl i).queues m = (s.queues m).told s.fl fl i m := by
  rw [recordFault_eq]
  cases m <;> rfl

/-! ## The branches (R144) -/

section
variable {s : State} {k : FaultKind} {x : Option Nat} (c : Concerned)

theorem postFault_overflow (ho : s.fl.overflow = true) : s.postFault k c x = { s with fl := s.fl.drop } := if_pos ho

theorem postFault_coalesced {i : Fin 8} (ho : s.fl.overflow = false) (hn : s.fl.newest = some i)
    (he : s.fl.records[i].equals k x = true) :
    s.postFault k c x = s.recordFault (s.fl.setRecord i (s.fl.records[i].absorb c)) i := by
  rw [State.postFault, if_neg (by rw [ho]; decide), hn]
  exact if_pos he

theorem postFault_unequal (ho : s.fl.overflow = false)
    (hn : ∀ i, s.fl.newest = some i → s.fl.records[i].equals k x = false) :
    s.postFault k c x = s.writeFault k c x := by
  rw [State.postFault, if_neg (by rw [ho]; decide)]
  split
  · next i hi => exact if_neg (by rw [hn i hi]; decide)
  · rfl

end

theorem writeFault_full {s : State} (k : FaultKind) (c : Concerned) (x : Option Nat)
    (hw : s.fl.records[s.fl.w].valid = true) : s.writeFault k c x = { s with fl := s.fl.drop } := if_pos hw

theorem writeFault_free {s : State} (k : FaultKind) (c : Concerned) (x : Option Nat)
    (hw : s.fl.records[s.fl.w].valid = false) :
    s.writeFault k c x = s.recordFault (s.fl.written k c x s.bd.sec) s.fl.w := if_neg (by rw [hw]; decide)

/-- Every valid record of the one log stands in the other with its kind, subject and time. -/
def FaultLog.keptIn (old new : FaultLog) : Prop :=
  ∀ i : Fin 8, old.records[i].valid = true → new.records[i].valid = true
    ∧ new.records[i].kind = old.records[i].kind ∧ new.records[i].subject = old.records[i].subject
    ∧ new.records[i].sec = old.records[i].sec

theorem keptIn_absorb (fl : FaultLog) (i : Fin 8) (c : Concerned) :
    fl.keptIn (fl.setRecord i (fl.records[i].absorb c)) := by
  intro j hj
  rw [FaultLog.setRecord, getElem_putAt]
  by_cases h : j = i
  · subst h
    rw [if_pos rfl]
    exact ⟨hj, rfl, rfl, rfl⟩
  · rw [if_neg h]
    exact ⟨hj, rfl, rfl, rfl⟩

/-- A record that is written takes the place of none that is valid. -/
theorem keptIn_written {fl : FaultLog} (k : FaultKind) (c : Concerned) (x : Option Nat) (sec : Nat)
    (hw : fl.records[fl.w].valid = false) : fl.keptIn (fl.written k c x sec) := by
  intro j hj
  have other : fl.w ≠ j := fun h => by
    rw [← h, hw] at hj
    cases hj
  rw [FaultLog.written, FaultLog.setRecord, putAt_other _ _ _ _ other]
  exact ⟨hj, rfl, rfl, rfl⟩

/-- A posted fault is dropped, or it stands in one record of a log that keeps what it held (R144). -/
theorem postFault_cases (s : State) (k : FaultKind) (c : Concerned) (x : Option Nat) :
    s.postFault k c x = { s with fl := s.fl.drop }
    ∨ ∃ fl i, s.postFault k c x = s.recordFault fl i ∧ s.fl.keptIn fl := by
  cases ho : s.fl.overflow with
  | true => exact .inl (postFault_overflow c ho)
  | false =>
    by_cases he : ∃ i, s.fl.newest = some i ∧ s.fl.records[i].equals k x = true
    · obtain ⟨i, hn, he⟩ := he
      exact .inr ⟨_, i, postFault_coalesced c ho hn he, keptIn_absorb _ _ _⟩
    · rw [postFault_unequal c ho fun i hi => Bool.eq_false_iff.2 fun h => he ⟨i, hi, h⟩]
      cases hw : s.fl.records[s.fl.w].valid with
      | true => exact .inl (writeFault_full k c x hw)
      | false => exact .inr ⟨_, _, writeFault_free k c x hw, keptIn_written k c x _ hw⟩

theorem postFault_keeps (s : State) (k : FaultKind) (c : Concerned) (x : Option Nat) :
    s.fl.keptIn (s.postFault k c x).fl := by
  obtain h | ⟨fl, i, h, kept⟩ := postFault_cases s k c x
  · rw [h]
    exact fun _ hi => ⟨hi, rfl, rfl, rfl⟩
  · rw [h, recordFault_eq]
    exact kept

/-- Taking a fault changes the log and the ports, and its outcome's own fields say how. -/
theorem postFault_changes (s : State) (k : FaultKind) (c : Concerned) (x : Option Nat) :
    s.postFault k c x = { s with
      fl := (s.postFault k c x).fl, game := (s.postFault k c x).game, sys := (s.postFault k c x).sys } := by
  obtain ⟨fl, g, y, h⟩ := postFault_frame s k c x
  rw [h]

/-- Of the ports, taking a fault changes the queues alone. -/
theorem postFault_ports (s : State) (k : FaultKind) (c : Concerned) (x : Option Nat) : ∃ g y,
    (s.postFault k c x).game = { s.game with q := g } ∧ (s.postFault k c x).sys = { s.sys with q := y } := by
  obtain h | ⟨fl, i, h, -⟩ := postFault_cases s k c x
  · exact ⟨s.game.q, s.sys.q, by rw [h], by rw [h]⟩
  · exact ⟨_, _, by rw [h, recordFault_eq], by rw [h, recordFault_eq]⟩

/-- Settles O57: each branch under its own premises, with what the branches that record have in common. -/
theorem faultTaken : Obligations.FaultTaken := by
  intro s k c x fl t told newest equal
  have recorded : ∀ {l : FaultLog} {i : Fin 8}, t = s.recordFault l i → t.fl = l ∧ told i := by
    intro l i h
    have log : t.fl = l := by rw [h, recordFault_eq]
    refine ⟨log, fun m => ?_⟩
    rw [log, h, recordFault_queues]
    exact ite_congr rfl (fun _ => rfl) fun _ => rfl
  have unequal : (∀ i, newest i → ¬equal i) →
      ∀ i, s.fl.newest = some i → s.fl.records[i].equals k x = false := fun h i hi =>
    Bool.eq_false_iff.2 fun he => h i (newest_iff.1 hi) (FaultRecord.equals_iff.1 he)
  refine ⟨fun ho => ?_, fun i ho hn he => ?_, fun ho hn hw => ?_, fun ho hn hw => ?_, postFault_keeps s k c x,
    postFault_changes s k c x, postFault_ports s k c x⟩
  · have drop : s.fl.drop = { fl with lost := min 255 (fl.lost + 1) } := by rw [FaultLog.drop, ← ho]
    exact (postFault_overflow c ho).trans (by rw [drop])
  · obtain ⟨log, notices⟩ := recorded (postFault_coalesced c ho (newest_iff.2 hn) (FaultRecord.equals_iff.2 he))
    refine ⟨log.trans ?_, notices⟩
    rw [FaultLog.setRecord, FaultRecord.absorb_eq]
  · exact (postFault_unequal c ho (unequal hn)).trans (writeFault_full k c x hw)
  · exact recorded ((postFault_unequal c ho (unequal hn)).trans (writeFault_free k c x hw))

end Sys2Proof.Machine
end

section
/-! SUPPORT. FAULT_READ and FAULT_CLEAR: the fields of a record, the index that a parameter names, and what each
selector clears (R143, R146 to R148). -/

namespace Sys2Proof.Machine

/-! ## The requests as jobs -/

section
variable {s : State} {m : Master} (tag : Byte) (h : s.takes m .running)
include h

theorem exec_faultRead (b : Byte) : exec (.faultRead m tag b) s =
    .next (jobFaultRead ⟨m, tag, 0x48⟩ b (s.reserveSlot m)) := receive_takes h rfl

theorem exec_faultClearIndex (b : Byte) : exec (.faultClearIndex m tag b) s =
    .next (jobFaultClearIndex ⟨m, tag, 0x49⟩ b (s.reserveSlot m)) := receive_takes h rfl

theorem exec_faultClearAllMine : exec (.faultClearAllMine m tag) s =
    .next (jobFaultClearAllMine ⟨m, tag, 0x49⟩ (s.reserveSlot m)) := receive_takes h rfl

theorem exec_faultClearOverflow : exec (.faultClearOverflow m tag) s =
    .next (jobFaultClearOverflow ⟨m, tag, 0x49⟩ (s.reserveSlot m)) := receive_takes h rfl

end

/-! ## Records and their fields (R146, R147) -/

theorem recordOf_eq {b : Byte} {i : Fin 8} (h : b.toNat = i.val) : recordOf b = some i :=
  (dif_pos (h ▸ i.isLt)).trans (congrArg some (Fin.ext h))

theorem recordOf_above {b : Byte} (h : 8 ≤ b.toNat) : recordOf b = none := dif_neg (Nat.not_lt.2 h)

/-- A valid record reports its fields, any other fourteen zeros: each field absent (R146, R174). -/
theorem FaultRecord.fields_eq (r : FaultRecord) : r.fields =
    if r.valid = true then flag true ++ (1 :: u8 r.kind.code) ++ (1 :: u8 r.concerned.code)
      ++ optional 1 (r.subject.map u8) ++ (1 :: u32 r.sec) ++ (1 :: u8 r.repeats)
    else List.replicate 14 0 := by
  unfold FaultRecord.fields FaultRecord.field
  cases r.valid <;> rfl

/-- The records that a master's all-mine clears, by the concerned values that it takes (R147). -/
theorem FaultRecord.mine_eq (r : FaultRecord) (m : Master) : r.mine m = (r.valid && match m with
    | .game => r.concerned == .game
    | .system => r.concerned == .system || r.concerned == .both) := by
  unfold FaultRecord.mine
  cases m
  · rfl
  · cases r.concerned <;> rfl

/-! ## A clear and its reply -/

theorem reserveSlot_log (s : State) (m : Master) (fl : FaultLog) :
    ({ s.reserveSlot m with fl := fl } : State) = ({ s with fl := fl } : State).reserveSlot m := by cases m <;> rfl

/-- A clear of records leaves the two fields of the overflow absent (log entry 13). -/
theorem clearFields_records (cleared concerning : List Byte) (pending : Option (List Byte)) :
    clearFields (some cleared) pending (some concerning) none none =
      (1 :: cleared) ++ optional 1 pending ++ (1 :: concerning) ++ [0, 0, 0, 0] := List.append_assoc _ _ _

theorem reserve_clearReply (s : State) (a : Ask) (fl : FaultLog) (n : Nat) : (s.reserveSlot a.m).clearReply a fl n =
    ({ s with fl := fl } : State).withReply a.m a.kind a.tag .ok ((1 :: u8 n)
      ++ optional 1 (fl.firstPending.map fun i => u8 i.val) ++ (1 :: u8 (fl.countFor a.m)) ++ [0, 0, 0, 0]) := by
  rw [State.clearReply, reserveSlot_log, reserve_answer, clearFields_records]

theorem jobFaultRead_record {a : Ask} {b : Byte} {i : Fin 8} {s : State} (hb : b.toNat = i.val) :
    jobFaultRead a b (s.reserveSlot a.m) = s.withReply a.m a.kind a.tag .ok (s.fl.readFields i a.m) := by
  rw [jobFaultRead, recordOf_eq hb]
  dsimp only
  rw [reserve_answer, State.reserveSlot_fl]

theorem jobFaultClearIndex_record {a : Ask} {b : Byte} {i : Fin 8} {s : State} (hb : b.toNat = i.val) :
    jobFaultClearIndex a b (s.reserveSlot a.m) =
      if s.fl.records[i].valid = false then (s.reserveSlot a.m).clearReply a s.fl 0
      else if a.m = .game ∧ s.fl.records[i].concerned ≠ .game then s.withReply a.m a.kind a.tag .denied []
      else (s.reserveSlot a.m).clearReply a (s.fl.clear i) 1 := by
  rw [jobFaultClearIndex, recordOf_eq hb]
  dsimp only
  rw [State.reserveSlot_fl, reserve_refuse]
  exact ite_congr (Bool.not_eq_true' _) (fun _ => rfl) fun _ => rfl

/-- Settles O58: the job answers in the slot that the port reserved, with the log as the selector leaves it. -/
theorem faultRequests : Obligations.FaultRequests := by
  refine ⟨fun fl i => firstPending_iff, fun m tag b s ht hb => ⟨?_, ?_⟩,
    fun m tag b i s ht hb => ?_, fun tag s ht => ?_, fun tag s ht => ?_⟩
  · rw [exec_faultRead tag ht, jobFaultRead, recordOf_above hb]
    exact congrArg _ (reserve_refuse s ⟨m, tag, 0x48⟩ .range)
  · rw [exec_faultClearIndex tag ht, jobFaultClearIndex, recordOf_above hb]
    exact congrArg _ (reserve_refuse s ⟨m, tag, 0x49⟩ .range)
  · intro fl r count reply mine
    have cleared : ∀ n l, (s.reserveSlot m).clearReply ⟨m, tag, 0x49⟩ l n = reply n l := fun n l =>
      reserve_clearReply s ⟨m, tag, 0x49⟩ l n
    have own : (fun q : FaultRecord => q.mine m) = mine := funext fun q => (q.mine_eq m).trans (by cases m <;> rfl)
    refine ⟨?_, ?_, ?_⟩
    · rw [exec_faultRead tag ht, jobFaultRead_record (a := ⟨m, tag, 0x48⟩) hb, FaultLog.readFields,
        FaultRecord.fields_eq]
      rfl
    · rw [exec_faultClearIndex tag ht, jobFaultClearIndex_record (a := ⟨m, tag, 0x49⟩) hb, cleared, cleared]
      rfl
    · have number : s.fl.mineCount m = count fl mine := by rw [← own]; rfl
      have log : s.fl.clearMine m = { fl with
          records := fl.records.map fun q => if mine q then { q with valid := false } else q } := by rw [← own]; rfl
      rw [exec_faultClearAllMine tag ht, jobFaultClearAllMine, State.reserveSlot_fl, cleared, number, log]
  · rw [exec_faultClearOverflow tag ht, jobFaultClearOverflow, if_neg nofun]
    dsimp only
    rw [State.reserveSlot_fl, reserveSlot_log]
    exact congrArg _ (reserve_answer _ ⟨.system, tag, 0x49⟩ .ok _)
  · rw [exec_faultClearOverflow tag ht, jobFaultClearOverflow, if_pos rfl]
    exact congrArg _ (reserve_refuse s ⟨.game, tag, 0x49⟩ .denied)

end Sys2Proof.Machine
end

section
/-! SUPPORT. What a free port answers before any job: a malformed request and one whose job does not run (R160, R168,
R169). -/

namespace Sys2Proof.Machine

/-! ## A raw request at a free port -/

/-- An assembly or a frame holds one place at most, so a port with no request waiting has room (R164, 10.3). -/
theorem requestSpace_pos {s : State} {m : Master} (h : (s.queues m).requests = []) : 0 < s.requestSpace m := by
  cases m with
  | game =>
    have hq : s.game.q.requests = [] := h
    have held : s.game.held ≤ 1 := by unfold GamePort.held; split <;> decide
    simp only [State.requestSpace, GamePort.space, hq, List.length_nil, requestPlaces]
    omega
  | system =>
    have hq : s.sys.q.requests = [] := h
    have held : s.sys.rx.held ≤ 1 := by unfold LinkRx.held; split <;> decide
    simp only [State.requestSpace, SystemPort.space, hq, List.length_nil, requestPlaces]
    omega

/-- A request that comes and goes leaves an empty queue as it was. -/
theorem setRequests_undo {s : State} {m : Master} (h : (s.queues m).requests = []) (rs : List Request) :
    (s.setRequests m rs).setRequests m [] = s := by
  have same : { s.queues m with requests := [] } = s.queues m := by rw [← h]
  simp [State.setRequests, same]

/-- A free port hands a request over as it comes (R168). -/
theorem enqueue_portFree {s : State} {m : Master} (h : s.portFree m) (r : Request) :
    s.enqueue m r = s.handOver m r := by
  obtain ⟨-, hr, hf⟩ := h
  have alone : ((s.setRequests m [r]).queues m).requests = [r] := by simp [State.setRequests]
  have free : ((s.setRequests m [r]).queues m).slotFree = true := by simpa [State.setRequests, Queues.slotFree] using hf
  simp only [State.enqueue, hr, List.nil_append, State.drainAll, alone, List.length_singleton, State.drain, free,
    if_true, setRequests_undo hr]

theorem exec_badRequest {s : State} {m : Master} (h : s.portFree m) (r : Request) :
    exec (.badRequest m r) s = .next (s.handOver m r) := by
  show execBadRequest m r s = _
  rw [execBadRequest, if_pos h.1, State.arriveRaw, if_pos (requestSpace_pos h.2.1), enqueue_portFree h]

/-- A malformed request takes a slot and its BAD_REQUEST fills it (R169). -/
theorem handOver_malformed {r : Request} (h : r.malformed = true) (s : State) (m : Master) :
    s.handOver m r = s.withReply m r.kind r.tag .badRequest [] := by
  have undecoded : decodeRequest r = none := Option.isNone_iff_eq_none.1 h
  rw [State.handOver, undecoded]
  exact reserve_refuse s ⟨m, r.tag, r.kind⟩ .badRequest

/-- A request that the wire can spell is of an allowed size (R116). -/
theorem requestSized_of_wellFormed {q : Req} (h : q.WellFormed) : requestSized q = true := by
  cases q with
  | saveData bytes =>
    obtain ⟨lower, upper⟩ : 1 ≤ bytes.length ∧ bytes.length ≤ 64 := h
    simp [requestSized, lower, upper]
  | _ => rfl

/-- Settles O7: a free port hands the request over at once, and the reply fills the slot that the hand-over
reserved. -/
theorem refusedBeforeJob : Obligations.RefusedBeforeJob := by
  refine ⟨fun m r s hp hm => ?_, fun m tag q c s hc hq hp hn => ?_⟩
  · rw [exec_badRequest hp, handOver_malformed hm]
  · rw [exec_request hc, receive_notReady hp hn (requestSized_of_wellFormed hq)]

end Sys2Proof.Machine
end
